-- ==== Sys2Proof/Word.lean ====
section
/-! DEFINITION. The word types of the block `fp_transcendental_vectorized`: what the spec treats as bits. -/

namespace Sys2Proof

/-- One byte of the buffer space (R41). -/
abbrev Byte := BitVec 8

/-- A 32-bit word: an element, a lane register, a constant word or a table word (R10, R72).  The same 32 bits are
read as an integer pattern or as a binary32 value (R11). -/
abbrev Word := BitVec 32

/-- The index of a word of the Constant Table: 11 bits, so an index outside `0..2047` cannot be written (R67, R85). -/
abbrev TableIndex := BitVec 11

/-- A 5-bit stage code (R69). -/
abbrev StageCode := BitVec 5

end Sys2Proof
end

