-- ==== Sys2Proof/Machine/Binary32.lean ====
section
/-! DEFINITION. The binary32 primitives of R12: IEEE 754 with round to nearest, ties to even, gradual underflow, no
flags (R9, R26).  Every finite binary32 value is an integer multiple of `2^-149`, so operands are turned into integers,
the exact result is an integer in units of `2^-298`, and it is narrowed once, at the end.  A NaN result is answered as
`none`: which NaN it is stays free (R172) and is drawn where the result is written. -/

namespace Sys2Proof.Machine.Binary32

/-- Field `sign` of R61. -/
def sign (w : Word) : Bool := w.msb

/-- Field `expf` of R61: bits 30..23. -/
def expf (w : Word) : Nat := (w.extractLsb' 23 8).toNat

/-- Field `frac` of R61: bits 22..0. -/
def frac (w : Word) : Nat := (w.extractLsb' 0 23).toNat

/-- The class NaN of R62, quiet or signalling. -/
def isNaN (w : Word) : Bool := expf w == 255 && frac w != 0

/-- The class infinity of R62. -/
def isInf (w : Word) : Bool := expf w == 255 && frac w == 0

/-- The class zero of R62. -/
def isZero (w : Word) : Bool := expf w == 0 && frac w == 0

/-- A finite value: zero, subnormal or normal (R62). -/
def isFinite (w : Word) : Bool := expf w != 255

/-- The magnitude of a finite value in units of `2^-149` (R62, column `val`).  On an infinity it gives `2^128` in the
same units, above every finite magnitude. -/
def magnitude (w : Word) : Nat :=
  if expf w = 0 then frac w else (2 ^ 23 + frac w) * 2 ^ (expf w - 1)

/-- The value of a finite word in units of `2^-149`. -/
def units (w : Word) : Int := if sign w then -(magnitude w : Int) else (magnitude w : Int)

/-- Put a sign on a 31-bit magnitude pattern. -/
def withSign (negative : Bool) (pattern : Nat) : Word :=
  BitVec.ofNat 32 (if negative then 2 ^ 31 + pattern else pattern)

/-- Zero of a sign. -/
def zero (negative : Bool) : Word := withSign negative 0

/-- Infinity of a sign. -/
def inf (negative : Bool) : Word := withSign negative 0x7F800000

/-- `n / 2^drop` rounded to the nearest integer, a tie to the even one. -/
def roundShift (n drop : Nat) : Nat :=
  let q := n / 2 ^ drop
  let r := n % 2 ^ drop
  if 2 ^ drop < 2 * r ∨ (2 * r = 2 ^ drop ∧ q % 2 = 1) then q + 1 else q

/-- How many low bits of a magnitude in units of `2^-298` the format cannot hold: all but 24 significant bits, and
always the 149 below the least subnormal. -/
def dropped (n : Nat) : Nat := max (n.log2 - 23) 149

/-- The magnitude pattern (bits 30..0) nearest to a magnitude in units of `2^-298`; at and above the overflow threshold
it is infinity's.  The exponent field and the fraction come out of one sum: a carry out of the fraction is the next
binade. -/
def roundPattern (n : Nat) : Nat :=
  min ((dropped n - 149) * 2 ^ 23 + roundShift n (dropped n)) 0x7F800000

/-- `RN` of R12 on an exact value in units of `2^-298`; `zeroSign` is the sign of an exact zero. -/
def round (zeroSign : Bool) (v : Int) : Word :=
  if v = 0 then zero zeroSign else withSign (decide (v < 0)) (roundPattern v.natAbs)

/-- `fma(a, b, c)` of R12: the product exact, one rounding.  NaN operands, infinity times zero and infinity minus
infinity give a NaN; an exact zero result takes the common sign of product and addend, and is `+0` where they differ. -/
def fma (a b c : Word) : Option Word :=
  if isNaN a || isNaN b || isNaN c then none
  else if isInf a || isInf b then
    if isZero a || isZero b then none
    else if isInf c && sign c != (sign a ^^ sign b) then none
    else some (inf (sign a ^^ sign b))
  else if isInf c then some c
  else some (round ((sign a ^^ sign b) && sign c) (units a * units b + units c * 2 ^ 149))

/-- `fmul(a, b)` of R12. -/
def fmul (a b : Word) : Option Word :=
  if isNaN a || isNaN b then none
  else if isInf a || isInf b then
    if isZero a || isZero b then none else some (inf (sign a ^^ sign b))
  else some (round (sign a ^^ sign b) (units a * units b))

/-- `fsub(a, b)` of R12; an exact zero result is `-0` only for `(-0) - (+0)`. -/
def fsub (a b : Word) : Option Word :=
  if isNaN a || isNaN b then none
  else if isInf a then
    if isInf b && sign a == sign b then none else some a
  else if isInf b then some (inf (!sign b))
  else some (round (sign a && !sign b) ((units a - units b) * 2 ^ 149))

/-- `flt(a, b)` of R12: the ordered, quiet "less than", false when either operand is a NaN; `-0` is not below `+0`. -/
def flt (a b : Word) : Bool := !isNaN a && !isNaN b && decide (units a < units b)

/-- The NaN pattern with this sign (bit 23) and fraction (bits 22..0); a zero fraction, which would be an infinity, is
replaced by 1, so that every value of the argument gives a NaN and every NaN pattern is given (R62, R172). -/
def nanPattern (bits : BitVec 24) : Word :=
  withSign bits.msb (0x7F800000 + max 1 (bits.toNat % 2 ^ 23))

end Sys2Proof.Machine.Binary32
end

