-- ==== Sys2Proof/Machine/Flags.lean ====
section
/-! DEFINITION. The block has no flags, no condition codes and no predicate registers, and no operation raises an IEEE
exception flag (R26, R193).  What a comparison gives is a 32-bit lane mask. -/

namespace Sys2Proof.Machine

/-- The mask of a comparison: all ones or all zeros, nothing else (R66). -/
def maskOf (below : Bool) : Word := if below then 0xFFFFFFFF#32 else 0x00000000#32

/-- `andn32(f, m)` (R151): the word with the mask's bits cleared. -/
def clear (f m : Word) : Word := f &&& ~~~m

end Sys2Proof.Machine
end

