-- ==== Sys2Proof/Config.lean ====
section
/-! DEFINITION. The parameters of the block that the spec leaves OPEN (R8), and the free values of the model.
The lane width `W` is the number of lane register sets a state holds (`State.W`), so it is no field here; `NAN_OUT` is the
draw `nanBits`. -/

namespace Sys2Proof.Config

/-- The three admitted values of the polynomial coefficient `K_C1` (R139); the spec leaves OPEN which one a block has. -/
inductive Coefficient where
  /-- `1 - 2^-24`, pattern `0x3F7FFFFF` (the spec's ALT). -/
  | below
  /-- `1`, pattern `0x3F800000` (the spec's REF). -/
  | one
  /-- `1 + 2^-23`, pattern `0x3F800001` (the spec's ALT2). -/
  | above
deriving DecidableEq, Repr

/-- The OPEN parameters of R8 that are fixed for a given block (R30): the width `XLEN` of the sequencer's integers, the
coefficient, and the accuracy budget.  A state carries them (log entry 1) and no step changes them, so that a claim about
every state is a claim about every block. -/
structure Params where
  /-- `XLEN` -/
  xlen : Nat
  /-- `K_C1` -/
  c1 : Coefficient
  /-- `EPS_REL`, the greatest relative error that the block's document allows in the normal domain (R140), or `none` where
  no budget is assumed, as in REF (log entry 17).  No operation reads it; claims about accuracy take it from here. -/
  epsRel : Option ℚ
deriving DecidableEq, Repr

/-- The reference configuration REF of R8, less its lane width 4. -/
def ref : Params := { xlen := 64, c1 := .one, epsRel := none }

/-- The lane width of REF (R8). -/
def refLanes : Nat := 4

/-- FREE VALUE: the sign and the fraction of the NaN that a NaN-valued result takes, by the number of the draw and the
lane (R172, the parameter `NAN_OUT`).  DESIGN CHOICE, log entry 5. -/
opaque nanBits (draw lane : Nat) : BitVec 24

/-- FREE VALUE: whether a reset that cuts a run short leaves the final value in this element of the output buffer, or what
was there at the start (R210: an unspecified set of the words holds final values; U14).  DESIGN CHOICE, log entry 13. -/
opaque finalAtReset (draw element : Nat) : Bool

end Sys2Proof.Config
end

