-- ==== Sys2Proof/Syntax.lean ====
section
/-! DEFINITION. The operations of the block: one constructor per row of the operation map (R69), in the map's order. -/

namespace Sys2Proof

/-- The twenty named operations of R69.  Only `VX.START` has operands of its own, the host's tuple (R68); every other
operation reads and writes fixed registers and constants (R70), and a lane operation acts on every lane (R161). -/
inductive Instr where
  /-- `VX.START`, code `0x00` (R162): the tuple `(len, in, out)`, each an unsigned `XLEN`-bit integer. -/
  | vxStart (len inBase outBase : Nat)
  /-- `VX.LOAD`, code `0x01` (R163). -/
  | vxLoad
  /-- `RR.BIAS`, code `0x02` (R91). -/
  | rrBias
  /-- `RR.UNBIAS`, code `0x03` (R92). -/
  | rrUnbias
  /-- `RR.RESHI`, code `0x04` (R95). -/
  | rrReshi
  /-- `RR.RESLO`, code `0x05` (R96). -/
  | rrReslo
  /-- `SR.INDEX`, code `0x06` (R112). -/
  | srIndex
  /-- `SR.EXPW`, code `0x07` (R113). -/
  | srExpw
  /-- `LUT.FETCH`, code `0x08` (R82). -/
  | lutFetch
  /-- `XP.PATCH`, code `0x09` (R125). -/
  | xpPatch
  /-- `PE.MUL`, code `0x0A` (R136). -/
  | peMul
  /-- `PE.COMB`, code `0x0B` (R137). -/
  | peComb
  /-- `DC.CMP`, code `0x0C` (R150). -/
  | dcCmp
  /-- `DC.MASK`, code `0x0D` (R151). -/
  | dcMask
  /-- `VX.STORE`, code `0x0E` (R165). -/
  | vxStore
  /-- `VX.NEXT`, code `0x0F` (R166). -/
  | vxNext
  /-- `VX.DONE`, code `0x10` (R167). -/
  | vxDone
  /-- `SR.SCALE`, code `0x11`, a pseudo-operation (R115). -/
  | srScale
  /-- `LANE.EXPM`, code `0x12`, a pseudo-operation (R160). -/
  | laneExpm
  /-- `VX.CHUNK`, code `0x13`, a pseudo-operation (R164). -/
  | vxChunk
deriving DecidableEq, Repr

end Sys2Proof
end

