-- ==== Sys2Proof/WellFormed.lean ====
section
/-! DEFINITION. Which operations are well formed: the three operands of `VX.START` are `XLEN`-bit integers (R68). -/

namespace Sys2Proof

/-- Every operand fits its `XLEN`-bit field (R68); the other nineteen operations have no operand (R70). -/
def Instr.wellFormed (xlen : Nat) : Instr → Bool
  | .vxStart len inBase outBase =>
    decide (len < 2 ^ xlen) && decide (inBase < 2 ^ xlen) && decide (outBase < 2 ^ xlen)
  | .vxLoad => true
  | .rrBias => true
  | .rrUnbias => true
  | .rrReshi => true
  | .rrReslo => true
  | .srIndex => true
  | .srExpw => true
  | .lutFetch => true
  | .xpPatch => true
  | .peMul => true
  | .peComb => true
  | .dcCmp => true
  | .dcMask => true
  | .vxStore => true
  | .vxNext => true
  | .vxDone => true
  | .srScale => true
  | .laneExpm => true
  | .vxChunk => true

end Sys2Proof
end

