-- ==== Sys2Proof/Decode.lean ====
section
/-! DEFINITION. Decoding and encoding.  The block decodes no instruction word (R60); its operations have 5-bit stage
codes (R69), and `VX.START` comes with the host's tuple (R68).  How the tuple reaches the block is in no source, so the
byte layout here is the model's (log entry 3): one byte with the stage code in bits 4..0 and zeros above, then for
`VX.START` the three operands `len`, `in`, `out` in that order, each in the least number of bytes that holds `XLEN`
bits, least significant byte first. -/

namespace Sys2Proof

/-- Why a string of bytes is no operation. -/
inductive DecodeError where
  /-- There is no byte. -/
  | noBytes
  /-- The first byte has a bit above the five of a stage code (R69). -/
  | notAStageCode (b : Byte)
  /-- A code of `0x14 .. 0x1F`: unassigned, it names nothing (R69). -/
  | unassigned (b : Byte)
  /-- The tuple of `VX.START` is cut short. -/
  | operandsCutShort
  /-- An operand of `VX.START` does not fit `XLEN` bits (R68). -/
  | operandTooWide (v : Nat)
deriving DecidableEq, Repr

/-- The bytes that hold one `XLEN`-bit operand. -/
def operandBytes (xlen : Nat) : Nat := (xlen + 7) / 8

/-- The low `8 * n` bits of `v` as `n` bytes, least significant first. -/
def leBytes : Nat → Nat → List Byte
  | 0, _ => []
  | n + 1, v => BitVec.ofNat 8 v :: leBytes n (v / 256)

/-- The number that bytes stand for, least significant first. -/
def leValue : List Byte → Nat
  | [] => 0
  | b :: bs => b.toNat + 256 * leValue bs

/-- Take one operand off the front of the bytes. -/
def takeOperand (xlen : Nat) (bs : List Byte) : Except DecodeError (Nat × List Byte) :=
  if bs.length < operandBytes xlen then
    .error .operandsCutShort
  else if leValue (bs.take (operandBytes xlen)) < 2 ^ xlen then
    .ok (leValue (bs.take (operandBytes xlen)), bs.drop (operandBytes xlen))
  else
    .error (.operandTooWide (leValue (bs.take (operandBytes xlen))))

/-- The tuple of `VX.START`, in the order `len`, `in`, `out` (R68). -/
def decodeStart (xlen : Nat) (bs : List Byte) : Except DecodeError (Instr × List Byte) :=
  match takeOperand xlen bs with
  | .error e => .error e
  | .ok (len, bs1) =>
    match takeOperand xlen bs1 with
    | .error e => .error e
    | .ok (inBase, bs2) =>
      match takeOperand xlen bs2 with
      | .error e => .error e
      | .ok (outBase, bs3) => .ok (.vxStart len inBase outBase, bs3)

/-- The operations without operands by their stage code (R69); the codes `0x14` to `0x1F` name nothing. -/
def ofStageCode : Nat → Option Instr
  | 0x01 => some .vxLoad
  | 0x02 => some .rrBias
  | 0x03 => some .rrUnbias
  | 0x04 => some .rrReshi
  | 0x05 => some .rrReslo
  | 0x06 => some .srIndex
  | 0x07 => some .srExpw
  | 0x08 => some .lutFetch
  | 0x09 => some .xpPatch
  | 0x0A => some .peMul
  | 0x0B => some .peComb
  | 0x0C => some .dcCmp
  | 0x0D => some .dcMask
  | 0x0E => some .vxStore
  | 0x0F => some .vxNext
  | 0x10 => some .vxDone
  | 0x11 => some .srScale
  | 0x12 => some .laneExpm
  | 0x13 => some .vxChunk
  | _ => none

/-- Read one operation off the front of the bytes: the operation and the bytes after it, or the reason there is none. -/
def decode (xlen : Nat) : List Byte → Except DecodeError (Instr × List Byte)
  | [] => .error .noBytes
  | b :: rest =>
    if 32 ≤ b.toNat then .error (.notAStageCode b)
    else if b.toNat = 0 then decodeStart xlen rest
    else
      match ofStageCode b.toNat with
      | some i => .ok (i, rest)
      | none => .error (.unassigned b)

/-- The stage code of an operation, column "code" of R69. -/
def Instr.stageCode : Instr → StageCode
  | .vxStart _ _ _ => 0x00#5
  | .vxLoad => 0x01#5
  | .rrBias => 0x02#5
  | .rrUnbias => 0x03#5
  | .rrReshi => 0x04#5
  | .rrReslo => 0x05#5
  | .srIndex => 0x06#5
  | .srExpw => 0x07#5
  | .lutFetch => 0x08#5
  | .xpPatch => 0x09#5
  | .peMul => 0x0A#5
  | .peComb => 0x0B#5
  | .dcCmp => 0x0C#5
  | .dcMask => 0x0D#5
  | .vxStore => 0x0E#5
  | .vxNext => 0x0F#5
  | .vxDone => 0x10#5
  | .srScale => 0x11#5
  | .laneExpm => 0x12#5
  | .vxChunk => 0x13#5

/-- The operand bytes of an operation. -/
def Instr.operands (xlen : Nat) : Instr → List Byte
  | .vxStart len inBase outBase =>
    leBytes (operandBytes xlen) len ++ (leBytes (operandBytes xlen) inBase ++ leBytes (operandBytes xlen) outBase)
  | .vxLoad => []
  | .rrBias => []
  | .rrUnbias => []
  | .rrReshi => []
  | .rrReslo => []
  | .srIndex => []
  | .srExpw => []
  | .lutFetch => []
  | .xpPatch => []
  | .peMul => []
  | .peComb => []
  | .dcCmp => []
  | .dcMask => []
  | .vxStore => []
  | .vxNext => []
  | .vxDone => []
  | .srScale => []
  | .laneExpm => []
  | .vxChunk => []

/-- The bytes of an operation. -/
def encode (xlen : Nat) (i : Instr) : List Byte := i.stageCode.setWidth 8 :: i.operands xlen

/-- The bytes of the longest operation, `VX.START`. -/
def longest (xlen : Nat) : Nat := 1 + 3 * operandBytes xlen

/-- The operation the decoder reads from an instruction whose bits are `w`, at the reference width `XLEN = 64`: the
`nbits` bits of the table's row and zeros above them, laid out least significant byte first. -/
def decodeTableWord (nbits w : Nat) : Option Instr :=
  match decode Config.ref.xlen (leBytes (longest Config.ref.xlen) (w % 2 ^ nbits)) with
  | .ok (i, _) => some i
  | .error _ => none

end Sys2Proof
end

