-- ==== Sys2Proof/Machine/State.lean ====
section
/-! DEFINITION. The state of one instance of the block, with the host's buffer space beside it, as plain data; the
reasons a step can stop; the state after reset.  The Constant Table (R21) and five of the six constant words (R22) are
hard-wired and never change: they are constants of `Machine/Table.lean` and `Machine/Operands.lean`, not fields. -/

namespace Sys2Proof.Machine

/-- Why the machine stops with a fault.  The spec gives the block no fault outcome (R14, R190). -/
inductive Fault where
  /-- Raised by `VX.LOAD`, `VX.STORE` and `VX.CHUNK` on an element address that does not exist, because the element's
  four bytes do not all lie below `2^XLEN`.  Safe: no state that an admitted invocation reaches has such an access
  (R48, R174), and nothing is claimed of it. -/
  | addressOutsideSpace (addr : Nat)
deriving DecidableEq, Repr

/-- The preconditions of an invocation (the table of R162).  P7 (the Constant Table is built) has no name here: with the
table a ROM it always holds (R211). -/
inductive Precondition where
  /-- P1: the instance is idle. -/
  | idle
  /-- P2: `len mod W = 0`. -/
  | lengthMultipleOfW
  /-- P3: both bases are multiples of 4. -/
  | basesAligned
  /-- P4: neither buffer wraps around the top of the address space. -/
  | withinSpace
  /-- P5: every input word is readable and every output word is writable. -/
  | accessible
  /-- P6: the two byte ranges do not intersect. -/
  | buffersDisjoint
  /-- P8: no other running invocation writes the input or touches the output. -/
  | noOtherInvocation
deriving DecidableEq, Repr

/-- Why the model gives an operation no meaning (R14: it "errs toward unprovable"). -/
inductive Refusal where
  /-- Declared for the host's checks; no arm of `exec` answers it, since every operation has a meaning.  Safe. -/
  | notModelled (mnemonic : String)
  /-- Raised by `VX.START`: these preconditions of R162 do not hold.  Safe: R14, R191, R194. -/
  | launch (violated : List Precondition)
  /-- Raised by `VX.START` with an operand that is no `XLEN`-bit integer (R68); a decoded operation never has one.
  Safe. -/
  | operandTooWide
  /-- Raised by the step: the operation presented next is none (R69: unassigned codes name nothing).  Safe. -/
  | undecodable (why : DecodeError)
  /-- Raised by `VX.LOAD`, `VX.STORE` and `VX.CHUNK` on an element address that is no multiple of 4: an invalid pointer
  (R43, R45).  Safe: P3 rules it out in every admitted invocation. -/
  | misaligned (addr : Nat)
  /-- Raised by `VX.LOAD` and `VX.CHUNK` on an element that is not readable (R58).  Safe: P5 rules it out. -/
  | unreadableWord (addr : Nat)
  /-- Raised by `VX.STORE` and `VX.CHUNK` on an element that is not writable (R58).  Safe: P5 rules it out. -/
  | unwritableWord (addr : Nat)
  /-- Raised by `VX.CHUNK` unless `BUSY = 1` and `CUR < LEN`, its precondition (R164).  Safe. -/
  | noChunkLeft
  /-- Raised by `VX.DONE` unless `BUSY = 1` and `CUR = LEN`, its precondition (R167).  Safe. -/
  | runNotFinished
deriving DecidableEq, Repr

/-- The private register set of one lane (R23). -/
structure Lane where
  /-- the raw input `x` -/
  x : Word
  /-- the biased sum `n_raw` -/
  nraw : Word
  /-- the reduction value `n`, a binary32 that is numerically an integer -/
  n : Word
  /-- the table index `k` -/
  k : TableIndex
  /-- the exponent word: `e` placed at bit 23 -/
  ew : Word
  /-- the fetched table word `l` -/
  l : Word
  /-- the scale `s` -/
  s : Word
  /-- the residual `t` -/
  t : Word
  /-- the polynomial correction `p` -/
  p : Word
  /-- the result `f` before the clamp -/
  f : Word
  /-- the clamp's mask -/
  m : Word
  /-- the output lane -/
  y : Word
deriving DecidableEq, Repr

/-- A lane register set with every register zero: the value the model names at reset (log entry 6). -/
def Lane.zero : Lane :=
  { x := 0#32, nraw := 0#32, n := 0#32, k := 0#11, ew := 0#32, l := 0#32, s := 0#32, t := 0#32, p := 0#32, f := 0#32,
    m := 0#32, y := 0#32 }

/-- The tuple of an invocation (R68); `len` counts elements. -/
structure Launch where
  len : Nat
  inBase : Nat
  outBase : Nat
deriving DecidableEq, Repr

/-- A range of byte addresses of the buffer space: `base`, `base + 1`, ... `base + size - 1`. -/
structure Region where
  base : Nat
  size : Nat
deriving DecidableEq, Repr

/-- What the outside sees of a run (the event history of R53, and the `DONE` event of R167). -/
inductive Event where
  /-- The word reads of one `VX.LOAD`, by byte address.  The order inside the list says nothing (R45). -/
  | loaded (addrs : List Nat)
  /-- The word writes of one `VX.STORE`, by byte address.  The order inside the list says nothing (R45). -/
  | stored (addrs : List Nat)
  /-- `DONE` signalled to the host. -/
  | done
deriving DecidableEq, Repr

/-- The buffer space's contents: the bytes that differ from what an unlisted address reads as, by rising address. -/
abbrev Memory := List Host.Cell

/-- One instance of the block and the buffer space it shares with the host. -/
structure State where
  /-- the block's OPEN parameters (R8): configuration, which no step changes (log entry 1) -/
  params : Config.Params
  /-- the `W` lane register sets, lane 0 first (R23) -/
  lanes : List Lane
  /-- `LEN`, the element count (R24) -/
  len : Nat
  /-- `IN_BASE` (R24) -/
  inBase : Nat
  /-- `OUT_BASE` (R24) -/
  outBase : Nat
  /-- `CUR`, the cursor (R24) -/
  cur : Nat
  /-- `BUSY` (R24) -/
  busy : Bool
  /-- the buffer space (R28, R41) -/
  mem : Memory
  /-- the ranges the host gives the block no read access to (R52, R58; `hostGrants` changes them, log entry 8) -/
  unreadable : List Region
  /-- the ranges the host gives the block no write access to (R52, R58; `hostGrants` changes them, log entry 8) -/
  unwritable : List Region
  /-- the invocations that run now on other instances (R55, R200, P8 of R162; log entry 16) -/
  others : List Launch
  /-- the tuple that the host presents with `VX.START`, if it presents one (R68) -/
  start : Option Launch
  /-- whether reset is asserted (R210) -/
  resetLine : Bool
  /-- the MODEL's own: the stage code of the operation a busy instance performs next (log entry 4) -/
  stage : StageCode
  /-- the MODEL's own: how many draws of free values were made (log entry 5) -/
  draws : Nat
  /-- the MODEL's own: the buffer space as it was at the last `VX.START`, words of which a reset during the run can find
  untouched (R210; log entry 13) -/
  original : Memory
  /-- the MODEL's own: the event history, the latest first (log entry 12) -/
  events : List Event
deriving DecidableEq, Repr

/-- `W`, the lane width: how many lane register sets the instance has (R20, R23). -/
def State.W (s : State) : Nat := s.lanes.length

/-- The machine right after reset (R31, R210): `BUSY = 0` and `CUR = 0` by the spec; the other registers at the value
the model names (log entry 6), the parameters at REF (log entry 1), the buffer space with nothing listed and all of it
granted to the block (log entries 7 and 8), every other instance idle too, no input pending. -/
def State.reset : State :=
  { params := Config.ref
    lanes := List.replicate Config.refLanes Lane.zero
    len := 0
    inBase := 0
    outBase := 0
    cur := 0
    busy := false
    mem := []
    unreadable := []
    unwritable := []
    others := []
    start := none
    resetLine := false
    stage := 0x00#5
    draws := 0
    original := []
    events := [] }

end Sys2Proof.Machine
end

