-- ==== Sys2Proof/Machine/Memory.lean ====
section
/-! DEFINITION. The buffer space (R41, R42, R45): a byte-addressed memory in one canonical form, and the little-endian
word accesses the block makes. -/

namespace Sys2Proof.Machine

/-- What an address reads as that no entry lists: the spec gives the buffer space no contents (R51), and this byte is the
model's (DESIGN CHOICE, log entry 7). -/
def unlistedByte : Byte := 0#8

/-- Whether every entry of a memory lies above an address. -/
def Memory.above (a : Nat) : Memory → Bool
  | [] => true
  | (b, _) :: _ => decide (a < b)

/-- The canonical form: addresses strictly rising, and no entry that an unlisted address would read the same as. -/
def Memory.wf : Memory → Bool
  | [] => true
  | (a, v) :: m => v != unlistedByte && Memory.above a m && Memory.wf m

/-- The byte at an address. -/
def Memory.readByte : Memory → Nat → Byte
  | [], _ => unlistedByte
  | (a, v) :: m, x => if x = a then v else Memory.readByte m x

/-- The memory with an entry in front, unless the entry reads as an unlisted address does. -/
def Memory.cons (x : Nat) (v : Byte) (m : Memory) : Memory := if v = unlistedByte then m else (x, v) :: m

/-- The memory with the byte at an address set. -/
def Memory.writeByte : Memory → Nat → Byte → Memory
  | [], x, v => Memory.cons x v []
  | (a, w) :: m, x, v =>
    if x < a then Memory.cons x v ((a, w) :: m)
    else if x = a then Memory.cons x v m
    else (a, w) :: Memory.writeByte m x v

/-- `MemRead(a, 4)`: bits 7..0 of the word at `a`, bits 31..24 at `a + 3` (R42). -/
def Memory.readWord (m : Memory) (a : Nat) : Word :=
  m.readByte (a + 3) ++ m.readByte (a + 2) ++ m.readByte (a + 1) ++ m.readByte a

/-- `MemWrite(a, 4, v)`, least significant byte first (R42). -/
def Memory.writeWord (m : Memory) (a : Nat) (v : Word) : Memory :=
  (((m.writeByte a (v.extractLsb' 0 8)).writeByte (a + 1) (v.extractLsb' 8 8)).writeByte (a + 2)
    (v.extractLsb' 16 8)).writeByte (a + 3) (v.extractLsb' 24 8)

/-- Write words at their addresses, from the front of the list on. -/
def Memory.writeWords : Memory → List (Nat × Word) → Memory
  | m, [] => m
  | m, (a, v) :: rest => (m.writeWord a v).writeWords rest

/-- Whether two ranges of byte addresses have an address in common; an empty range has none. -/
def rangesMeet (a n b m : Nat) : Bool := decide (max a b < min (a + n) (b + m))

/-- Whether a range meets any of the listed regions. -/
def meetsAny (regions : List Region) (a n : Nat) : Bool := regions.any fun r => rangesMeet a n r.base r.size

end Sys2Proof.Machine
end

