-- ==== Sys2Proof/Machine/Operands.lean ====
section
/-! DEFINITION. The operands that are not lane registers (R70): the six constant words of R22, the literals of the integer
operations, and the address of an element. -/

namespace Sys2Proof.Machine

/-- `K_C`, the binary32 nearest to `2048/ln 2` (R100). -/
def K_C : Word := 0x4538AA3B#32

/-- `K_B`, the magic bias `1.5 * 2^23` (R101). -/
def K_B : Word := 0x4B400000#32

/-- `K_NHI`, minus the high part of `ln2/2048` (R102). -/
def K_NHI : Word := 0xB9B17218#32

/-- `K_NLO`, minus the low part of `ln2/2048` (R102). -/
def K_NLO : Word := 0x2B82E308#32

/-- `K_CUT`, the underflow cutoff (R155). -/
def K_CUT : Word := 0xC2AEAC4F#32

/-- `K_C1`, the polynomial coefficient: one of the three words the spec admits (R139), which one is OPEN. -/
def K_C1 : Config.Coefficient → Word
  | .below => 0x3F7FFFFF#32
  | .one => 0x3F800000#32
  | .above => 0x3F800001#32

/-- `and32(w, 0x7FF)` as an 11-bit index (R112). -/
def indexOf (w : Word) : TableIndex := (w &&& 0x000007FF#32).setWidth 11

/-- `shl32(w[31:11], 23)` (R113), the word `{ w[19:11], 23 zero bits }`: what is shifted past bit 31 is dropped. -/
def exponentWord (w : Word) : Word := w.extractLsb' 11 9 ++ 0#23

/-- The byte address of element `i` of a buffer (R41). -/
def elementAddr (base i : Nat) : Nat := base + 4 * i

/-- A sequencer integer of `XLEN` bits (R24, R174).  Of the operations only `VX.NEXT` can need the reduction, and in no
admitted invocation does it (log entry 9); the host's values are reduced too, when it presents them (log entry 21). -/
def xlenBits (p : Config.Params) (v : Nat) : Nat := v % 2 ^ p.xlen

end Sys2Proof.Machine
end

