-- ==== Sys2Proof/Machine/Table.lean ====
section
/-! DEFINITION. The Constant Table ROM (R21, R86): the 2048 words of R86, eight a line, each line under the label of its
first index; 64 words to a block. -/

namespace Sys2Proof.Machine

/-- `TABLE[0]` to `TABLE[63]` (R86). -/
def tableBlock0 : List Word :=
  [ 0x3F800000#32, 0x3F800B18#32, 0x3F801630#32, 0x3F80214A#32, 0x3F802C64#32, 0x3F803780#32, 0x3F80429C#32, 0x3F804DB9#32,
    0x3F8058D8#32, 0x3F8063F7#32, 0x3F806F17#32, 0x3F807A39#32, 0x3F80855B#32, 0x3F80907E#32, 0x3F809BA2#32, 0x3F80A6C7#32,
    0x3F80B1ED#32, 0x3F80BD14#32, 0x3F80C83C#32, 0x3F80D365#32, 0x3F80DE8F#32, 0x3F80E9BA#32, 0x3F80F4E6#32, 0x3F810013#32,
    0x3F810B41#32, 0x3F81166F#32, 0x3F81219F#32, 0x3F812CD0#32, 0x3F813802#32, 0x3F814334#32, 0x3F814E68#32, 0x3F81599C#32,
    0x3F8164D2#32, 0x3F817008#32, 0x3F817B40#32, 0x3F818678#32, 0x3F8191B2#32, 0x3F819CEC#32, 0x3F81A828#32, 0x3F81B364#32,
    0x3F81BEA1#32, 0x3F81C9E0#32, 0x3F81D51F#32, 0x3F81E05F#32, 0x3F81EBA1#32, 0x3F81F6E3#32, 0x3F820226#32, 0x3F820D6A#32,
    0x3F8218AF#32, 0x3F8223F5#32, 0x3F822F3C#32, 0x3F823A85#32, 0x3F8245CE#32, 0x3F825118#32, 0x3F825C63#32, 0x3F8267AF#32,
    0x3F8272FC#32, 0x3F827E4A#32, 0x3F828998#32, 0x3F8294E8#32, 0x3F82A039#32, 0x3F82AB8B#32, 0x3F82B6DE#32, 0x3F82C232#32 ]

/-- `TABLE[64]` to `TABLE[127]` (R86). -/
def tableBlock1 : List Word :=
  [ 0x3F82CD87#32, 0x3F82D8DC#32, 0x3F82E433#32, 0x3F82EF8B#32, 0x3F82FAE4#32, 0x3F83063D#32, 0x3F831198#32, 0x3F831CF4#32,
    0x3F832850#32, 0x3F8333AE#32, 0x3F833F0D#32, 0x3F834A6C#32, 0x3F8355CD#32, 0x3F83612F#32, 0x3F836C91#32, 0x3F8377F5#32,
    0x3F838359#32, 0x3F838EBF#32, 0x3F839A25#32, 0x3F83A58D#32, 0x3F83B0F5#32, 0x3F83BC5F#32, 0x3F83C7C9#32, 0x3F83D335#32,
    0x3F83DEA1#32, 0x3F83EA0F#32, 0x3F83F57D#32, 0x3F8400ED#32, 0x3F840C5D#32, 0x3F8417CF#32, 0x3F842341#32, 0x3F842EB4#32,
    0x3F843A29#32, 0x3F84459E#32, 0x3F845115#32, 0x3F845C8C#32, 0x3F846804#32, 0x3F84737E#32, 0x3F847EF8#32, 0x3F848A73#32,
    0x3F8495F0#32, 0x3F84A16D#32, 0x3F84ACEB#32, 0x3F84B86B#32, 0x3F84C3EB#32, 0x3F84CF6C#32, 0x3F84DAEF#32, 0x3F84E672#32,
    0x3F84F1F6#32, 0x3F84FD7C#32, 0x3F850902#32, 0x3F851489#32, 0x3F852012#32, 0x3F852B9B#32, 0x3F853725#32, 0x3F8542B1#32,
    0x3F854E3D#32, 0x3F8559CA#32, 0x3F856558#32, 0x3F8570E8#32, 0x3F857C78#32, 0x3F858809#32, 0x3F85939C#32, 0x3F859F2F#32 ]

/-- `TABLE[128]` to `TABLE[191]` (R86). -/
def tableBlock2 : List Word :=
  [ 0x3F85AAC3#32, 0x3F85B659#32, 0x3F85C1EF#32, 0x3F85CD86#32, 0x3F85D91F#32, 0x3F85E4B8#32, 0x3F85F052#32, 0x3F85FBEE#32,
    0x3F86078A#32, 0x3F861328#32, 0x3F861EC6#32, 0x3F862A65#32, 0x3F863606#32, 0x3F8641A7#32, 0x3F864D4A#32, 0x3F8658ED#32,
    0x3F866491#32, 0x3F867037#32, 0x3F867BDD#32, 0x3F868785#32, 0x3F86932D#32, 0x3F869ED7#32, 0x3F86AA81#32, 0x3F86B62D#32,
    0x3F86C1D9#32, 0x3F86CD87#32, 0x3F86D935#32, 0x3F86E4E5#32, 0x3F86F095#32, 0x3F86FC47#32, 0x3F8707F9#32, 0x3F8713AD#32,
    0x3F871F62#32, 0x3F872B17#32, 0x3F8736CE#32, 0x3F874285#32, 0x3F874E3E#32, 0x3F8759F8#32, 0x3F8765B3#32, 0x3F87716E#32,
    0x3F877D2B#32, 0x3F8788E9#32, 0x3F8794A8#32, 0x3F87A067#32, 0x3F87AC28#32, 0x3F87B7EA#32, 0x3F87C3AD#32, 0x3F87CF71#32,
    0x3F87DB35#32, 0x3F87E6FB#32, 0x3F87F2C2#32, 0x3F87FE8A#32, 0x3F880A53#32, 0x3F88161D#32, 0x3F8821E8#32, 0x3F882DB4#32,
    0x3F883981#32, 0x3F88454F#32, 0x3F88511E#32, 0x3F885CEF#32, 0x3F8868C0#32, 0x3F887492#32, 0x3F888065#32, 0x3F888C39#32 ]

/-- `TABLE[192]` to `TABLE[255]` (R86). -/
def tableBlock3 : List Word :=
  [ 0x3F88980F#32, 0x3F88A3E5#32, 0x3F88AFBC#32, 0x3F88BB94#32, 0x3F88C76E#32, 0x3F88D348#32, 0x3F88DF23#32, 0x3F88EB00#32,
    0x3F88F6DD#32, 0x3F8902BC#32, 0x3F890E9B#32, 0x3F891A7C#32, 0x3F89265D#32, 0x3F893240#32, 0x3F893E24#32, 0x3F894A08#32,
    0x3F8955EE#32, 0x3F8961D5#32, 0x3F896DBC#32, 0x3F8979A5#32, 0x3F89858F#32, 0x3F89917A#32, 0x3F899D66#32, 0x3F89A953#32,
    0x3F89B541#32, 0x3F89C130#32, 0x3F89CD20#32, 0x3F89D911#32, 0x3F89E503#32, 0x3F89F0F6#32, 0x3F89FCEA#32, 0x3F8A08DF#32,
    0x3F8A14D5#32, 0x3F8A20CD#32, 0x3F8A2CC5#32, 0x3F8A38BE#32, 0x3F8A44B9#32, 0x3F8A50B4#32, 0x3F8A5CB1#32, 0x3F8A68AE#32,
    0x3F8A74AD#32, 0x3F8A80AC#32, 0x3F8A8CAD#32, 0x3F8A98AE#32, 0x3F8AA4B1#32, 0x3F8AB0B5#32, 0x3F8ABCBA#32, 0x3F8AC8BF#32,
    0x3F8AD4C6#32, 0x3F8AE0CE#32, 0x3F8AECD7#32, 0x3F8AF8E1#32, 0x3F8B04EC#32, 0x3F8B10F8#32, 0x3F8B1D05#32, 0x3F8B2913#32,
    0x3F8B3523#32, 0x3F8B4133#32, 0x3F8B4D44#32, 0x3F8B5957#32, 0x3F8B656A#32, 0x3F8B717E#32, 0x3F8B7D94#32, 0x3F8B89AA#32 ]

/-- `TABLE[256]` to `TABLE[319]` (R86). -/
def tableBlock4 : List Word :=
  [ 0x3F8B95C2#32, 0x3F8BA1DB#32, 0x3F8BADF4#32, 0x3F8BBA0F#32, 0x3F8BC62B#32, 0x3F8BD247#32, 0x3F8BDE65#32, 0x3F8BEA84#32,
    0x3F8BF6A4#32, 0x3F8C02C5#32, 0x3F8C0EE7#32, 0x3F8C1B0A#32, 0x3F8C272F#32, 0x3F8C3354#32, 0x3F8C3F7A#32, 0x3F8C4BA1#32,
    0x3F8C57CA#32, 0x3F8C63F3#32, 0x3F8C701E#32, 0x3F8C7C49#32, 0x3F8C8876#32, 0x3F8C94A3#32, 0x3F8CA0D2#32, 0x3F8CAD02#32,
    0x3F8CB933#32, 0x3F8CC565#32, 0x3F8CD198#32, 0x3F8CDDCC#32, 0x3F8CEA01#32, 0x3F8CF637#32, 0x3F8D026E#32, 0x3F8D0EA6#32,
    0x3F8D1ADF#32, 0x3F8D271A#32, 0x3F8D3355#32, 0x3F8D3F92#32, 0x3F8D4BCF#32, 0x3F8D580E#32, 0x3F8D644D#32, 0x3F8D708E#32,
    0x3F8D7CD0#32, 0x3F8D8913#32, 0x3F8D9556#32, 0x3F8DA19B#32, 0x3F8DADE1#32, 0x3F8DBA29#32, 0x3F8DC671#32, 0x3F8DD2BA#32,
    0x3F8DDF04#32, 0x3F8DEB4F#32, 0x3F8DF79C#32, 0x3F8E03E9#32, 0x3F8E1038#32, 0x3F8E1C87#32, 0x3F8E28D8#32, 0x3F8E352A#32,
    0x3F8E417D#32, 0x3F8E4DD1#32, 0x3F8E5A25#32, 0x3F8E667B#32, 0x3F8E72D3#32, 0x3F8E7F2B#32, 0x3F8E8B84#32, 0x3F8E97DE#32 ]

/-- `TABLE[320]` to `TABLE[383]` (R86). -/
def tableBlock5 : List Word :=
  [ 0x3F8EA43A#32, 0x3F8EB096#32, 0x3F8EBCF3#32, 0x3F8EC952#32, 0x3F8ED5B2#32, 0x3F8EE212#32, 0x3F8EEE74#32, 0x3F8EFAD7#32,
    0x3F8F073B#32, 0x3F8F13A0#32, 0x3F8F2006#32, 0x3F8F2C6D#32, 0x3F8F38D5#32, 0x3F8F453F#32, 0x3F8F51A9#32, 0x3F8F5E15#32,
    0x3F8F6A81#32, 0x3F8F76EF#32, 0x3F8F835D#32, 0x3F8F8FCD#32, 0x3F8F9C3E#32, 0x3F8FA8B0#32, 0x3F8FB523#32, 0x3F8FC197#32,
    0x3F8FCE0C#32, 0x3F8FDA82#32, 0x3F8FE6FA#32, 0x3F8FF372#32, 0x3F8FFFEC#32, 0x3F900C66#32, 0x3F9018E2#32, 0x3F90255E#32,
    0x3F9031DC#32, 0x3F903E5B#32, 0x3F904ADB#32, 0x3F90575C#32, 0x3F9063DE#32, 0x3F907062#32, 0x3F907CE6#32, 0x3F90896B#32,
    0x3F9095F2#32, 0x3F90A279#32, 0x3F90AF02#32, 0x3F90BB8C#32, 0x3F90C816#32, 0x3F90D4A2#32, 0x3F90E12F#32, 0x3F90EDBD#32,
    0x3F90FA4D#32, 0x3F9106DD#32, 0x3F91136E#32, 0x3F912001#32, 0x3F912C94#32, 0x3F913929#32, 0x3F9145BE#32, 0x3F915255#32,
    0x3F915EED#32, 0x3F916B86#32, 0x3F917820#32, 0x3F9184BB#32, 0x3F919158#32, 0x3F919DF5#32, 0x3F91AA93#32, 0x3F91B733#32 ]

/-- `TABLE[384]` to `TABLE[447]` (R86). -/
def tableBlock6 : List Word :=
  [ 0x3F91C3D3#32, 0x3F91D075#32, 0x3F91DD18#32, 0x3F91E9BC#32, 0x3F91F661#32, 0x3F920307#32, 0x3F920FAE#32, 0x3F921C56#32,
    0x3F922900#32, 0x3F9235AA#32, 0x3F924256#32, 0x3F924F03#32, 0x3F925BB0#32, 0x3F92685F#32, 0x3F92750F#32, 0x3F9281C0#32,
    0x3F928E72#32, 0x3F929B26#32, 0x3F92A7DA#32, 0x3F92B490#32, 0x3F92C146#32, 0x3F92CDFE#32, 0x3F92DAB7#32, 0x3F92E771#32,
    0x3F92F42C#32, 0x3F9300E8#32, 0x3F930DA5#32, 0x3F931A63#32, 0x3F932723#32, 0x3F9333E3#32, 0x3F9340A5#32, 0x3F934D67#32,
    0x3F935A2B#32, 0x3F9366F0#32, 0x3F9373B6#32, 0x3F93807D#32, 0x3F938D46#32, 0x3F939A0F#32, 0x3F93A6D9#32, 0x3F93B3A5#32,
    0x3F93C072#32, 0x3F93CD3F#32, 0x3F93DA0E#32, 0x3F93E6DE#32, 0x3F93F3AF#32, 0x3F940082#32, 0x3F940D55#32, 0x3F941A29#32,
    0x3F9426FF#32, 0x3F9433D6#32, 0x3F9440AE#32, 0x3F944D86#32, 0x3F945A60#32, 0x3F94673C#32, 0x3F947418#32, 0x3F9480F5#32,
    0x3F948DD4#32, 0x3F949AB3#32, 0x3F94A794#32, 0x3F94B476#32, 0x3F94C159#32, 0x3F94CE3D#32, 0x3F94DB22#32, 0x3F94E808#32 ]

/-- `TABLE[448]` to `TABLE[511]` (R86). -/
def tableBlock7 : List Word :=
  [ 0x3F94F4F0#32, 0x3F9501D8#32, 0x3F950EC2#32, 0x3F951BAD#32, 0x3F952898#32, 0x3F953585#32, 0x3F954274#32, 0x3F954F63#32,
    0x3F955C53#32, 0x3F956945#32, 0x3F957637#32, 0x3F95832B#32, 0x3F959020#32, 0x3F959D16#32, 0x3F95AA0D#32, 0x3F95B705#32,
    0x3F95C3FF#32, 0x3F95D0F9#32, 0x3F95DDF5#32, 0x3F95EAF1#32, 0x3F95F7EF#32, 0x3F9604EE#32, 0x3F9611EE#32, 0x3F961EEF#32,
    0x3F962BF2#32, 0x3F9638F5#32, 0x3F9645FA#32, 0x3F965300#32, 0x3F966006#32, 0x3F966D0E#32, 0x3F967A18#32, 0x3F968722#32,
    0x3F96942D#32, 0x3F96A13A#32, 0x3F96AE47#32, 0x3F96BB56#32, 0x3F96C866#32, 0x3F96D577#32, 0x3F96E289#32, 0x3F96EF9D#32,
    0x3F96FCB1#32, 0x3F9709C7#32, 0x3F9716DD#32, 0x3F9723F5#32, 0x3F97310E#32, 0x3F973E28#32, 0x3F974B43#32, 0x3F975860#32,
    0x3F97657D#32, 0x3F97729C#32, 0x3F977FBC#32, 0x3F978CDD#32, 0x3F9799FF#32, 0x3F97A722#32, 0x3F97B446#32, 0x3F97C16C#32,
    0x3F97CE92#32, 0x3F97DBBA#32, 0x3F97E8E3#32, 0x3F97F60D#32, 0x3F980338#32, 0x3F981065#32, 0x3F981D92#32, 0x3F982AC1#32 ]

/-- `TABLE[512]` to `TABLE[575]` (R86). -/
def tableBlock8 : List Word :=
  [ 0x3F9837F0#32, 0x3F984521#32, 0x3F985253#32, 0x3F985F86#32, 0x3F986CBB#32, 0x3F9879F0#32, 0x3F988727#32, 0x3F98945F#32,
    0x3F98A197#32, 0x3F98AED1#32, 0x3F98BC0D#32, 0x3F98C949#32, 0x3F98D686#32, 0x3F98E3C5#32, 0x3F98F105#32, 0x3F98FE46#32,
    0x3F990B88#32, 0x3F9918CB#32, 0x3F99260F#32, 0x3F993355#32, 0x3F99409C#32, 0x3F994DE3#32, 0x3F995B2C#32, 0x3F996877#32,
    0x3F9975C2#32, 0x3F99830E#32, 0x3F99905C#32, 0x3F999DAB#32, 0x3F99AAFA#32, 0x3F99B84C#32, 0x3F99C59E#32, 0x3F99D2F1#32,
    0x3F99E046#32, 0x3F99ED9B#32, 0x3F99FAF2#32, 0x3F9A084A#32, 0x3F9A15A3#32, 0x3F9A22FD#32, 0x3F9A3059#32, 0x3F9A3DB5#32,
    0x3F9A4B13#32, 0x3F9A5872#32, 0x3F9A65D2#32, 0x3F9A7333#32, 0x3F9A8096#32, 0x3F9A8DF9#32, 0x3F9A9B5E#32, 0x3F9AA8C4#32,
    0x3F9AB62B#32, 0x3F9AC393#32, 0x3F9AD0FD#32, 0x3F9ADE67#32, 0x3F9AEBD3#32, 0x3F9AF940#32, 0x3F9B06AE#32, 0x3F9B141D#32,
    0x3F9B218D#32, 0x3F9B2EFF#32, 0x3F9B3C71#32, 0x3F9B49E5#32, 0x3F9B575A#32, 0x3F9B64D0#32, 0x3F9B7248#32, 0x3F9B7FC0#32 ]

/-- `TABLE[576]` to `TABLE[639]` (R86). -/
def tableBlock9 : List Word :=
  [ 0x3F9B8D3A#32, 0x3F9B9AB5#32, 0x3F9BA831#32, 0x3F9BB5AE#32, 0x3F9BC32C#32, 0x3F9BD0AC#32, 0x3F9BDE2C#32, 0x3F9BEBAE#32,
    0x3F9BF931#32, 0x3F9C06B5#32, 0x3F9C143B#32, 0x3F9C21C1#32, 0x3F9C2F49#32, 0x3F9C3CD2#32, 0x3F9C4A5C#32, 0x3F9C57E7#32,
    0x3F9C6573#32, 0x3F9C7301#32, 0x3F9C8090#32, 0x3F9C8E20#32, 0x3F9C9BB1#32, 0x3F9CA943#32, 0x3F9CB6D6#32, 0x3F9CC46B#32,
    0x3F9CD201#32, 0x3F9CDF98#32, 0x3F9CED30#32, 0x3F9CFAC9#32, 0x3F9D0864#32, 0x3F9D1600#32, 0x3F9D239C#32, 0x3F9D313A#32,
    0x3F9D3EDA#32, 0x3F9D4C7A#32, 0x3F9D5A1C#32, 0x3F9D67BE#32, 0x3F9D7562#32, 0x3F9D8308#32, 0x3F9D90AE#32, 0x3F9D9E55#32,
    0x3F9DABFE#32, 0x3F9DB9A8#32, 0x3F9DC753#32, 0x3F9DD4FF#32, 0x3F9DE2AD#32, 0x3F9DF05B#32, 0x3F9DFE0B#32, 0x3F9E0BBC#32,
    0x3F9E196E#32, 0x3F9E2721#32, 0x3F9E34D6#32, 0x3F9E428C#32, 0x3F9E5043#32, 0x3F9E5DFB#32, 0x3F9E6BB4#32, 0x3F9E796E#32,
    0x3F9E872A#32, 0x3F9E94E7#32, 0x3F9EA2A5#32, 0x3F9EB064#32, 0x3F9EBE25#32, 0x3F9ECBE6#32, 0x3F9ED9A9#32, 0x3F9EE76D#32 ]

/-- `TABLE[640]` to `TABLE[703]` (R86). -/
def tableBlock10 : List Word :=
  [ 0x3F9EF532#32, 0x3F9F02F9#32, 0x3F9F10C0#32, 0x3F9F1E89#32, 0x3F9F2C53#32, 0x3F9F3A1E#32, 0x3F9F47EB#32, 0x3F9F55B8#32,
    0x3F9F6387#32, 0x3F9F7157#32, 0x3F9F7F28#32, 0x3F9F8CFA#32, 0x3F9F9ACE#32, 0x3F9FA8A3#32, 0x3F9FB679#32, 0x3F9FC450#32,
    0x3F9FD228#32, 0x3F9FE002#32, 0x3F9FEDDC#32, 0x3F9FFBB8#32, 0x3FA00996#32, 0x3FA01774#32, 0x3FA02553#32, 0x3FA03334#32,
    0x3FA04116#32, 0x3FA04EF9#32, 0x3FA05CDE#32, 0x3FA06AC3#32, 0x3FA078AA#32, 0x3FA08692#32, 0x3FA0947B#32, 0x3FA0A265#32,
    0x3FA0B051#32, 0x3FA0BE3E#32, 0x3FA0CC2C#32, 0x3FA0DA1B#32, 0x3FA0E80B#32, 0x3FA0F5FD#32, 0x3FA103F0#32, 0x3FA111E4#32,
    0x3FA11FD9#32, 0x3FA12DD0#32, 0x3FA13BC7#32, 0x3FA149C0#32, 0x3FA157BA#32, 0x3FA165B6#32, 0x3FA173B2#32, 0x3FA181B0#32,
    0x3FA18FAF#32, 0x3FA19DAF#32, 0x3FA1ABB0#32, 0x3FA1B9B3#32, 0x3FA1C7B7#32, 0x3FA1D5BC#32, 0x3FA1E3C2#32, 0x3FA1F1C9#32,
    0x3FA1FFD2#32, 0x3FA20DDC#32, 0x3FA21BE7#32, 0x3FA229F3#32, 0x3FA23801#32, 0x3FA2460F#32, 0x3FA2541F#32, 0x3FA26231#32 ]

/-- `TABLE[704]` to `TABLE[767]` (R86). -/
def tableBlock11 : List Word :=
  [ 0x3FA27043#32, 0x3FA27E57#32, 0x3FA28C6B#32, 0x3FA29A82#32, 0x3FA2A899#32, 0x3FA2B6B1#32, 0x3FA2C4CB#32, 0x3FA2D2E6#32,
    0x3FA2E102#32, 0x3FA2EF1F#32, 0x3FA2FD3E#32, 0x3FA30B5E#32, 0x3FA3197F#32, 0x3FA327A1#32, 0x3FA335C5#32, 0x3FA343E9#32,
    0x3FA3520F#32, 0x3FA36037#32, 0x3FA36E5F#32, 0x3FA37C89#32, 0x3FA38AB3#32, 0x3FA398E0#32, 0x3FA3A70D#32, 0x3FA3B53B#32,
    0x3FA3C36B#32, 0x3FA3D19C#32, 0x3FA3DFCE#32, 0x3FA3EE02#32, 0x3FA3FC37#32, 0x3FA40A6D#32, 0x3FA418A4#32, 0x3FA426DC#32,
    0x3FA43516#32, 0x3FA44351#32, 0x3FA4518D#32, 0x3FA45FCA#32, 0x3FA46E08#32, 0x3FA47C48#32, 0x3FA48A89#32, 0x3FA498CC#32,
    0x3FA4A70F#32, 0x3FA4B554#32, 0x3FA4C39A#32, 0x3FA4D1E1#32, 0x3FA4E029#32, 0x3FA4EE73#32, 0x3FA4FCBE#32, 0x3FA50B0A#32,
    0x3FA51958#32, 0x3FA527A6#32, 0x3FA535F6#32, 0x3FA54447#32, 0x3FA55299#32, 0x3FA560ED#32, 0x3FA56F42#32, 0x3FA57D98#32,
    0x3FA58BEF#32, 0x3FA59A48#32, 0x3FA5A8A2#32, 0x3FA5B6FD#32, 0x3FA5C559#32, 0x3FA5D3B7#32, 0x3FA5E215#32, 0x3FA5F075#32 ]

/-- `TABLE[768]` to `TABLE[831]` (R86). -/
def tableBlock12 : List Word :=
  [ 0x3FA5FED7#32, 0x3FA60D39#32, 0x3FA61B9D#32, 0x3FA62A02#32, 0x3FA63868#32, 0x3FA646D0#32, 0x3FA65538#32, 0x3FA663A2#32,
    0x3FA6720E#32, 0x3FA6807A#32, 0x3FA68EE8#32, 0x3FA69D57#32, 0x3FA6ABC7#32, 0x3FA6BA39#32, 0x3FA6C8AC#32, 0x3FA6D720#32,
    0x3FA6E595#32, 0x3FA6F40B#32, 0x3FA70283#32, 0x3FA710FC#32, 0x3FA71F76#32, 0x3FA72DF2#32, 0x3FA73C6F#32, 0x3FA74AED#32,
    0x3FA7596C#32, 0x3FA767ED#32, 0x3FA7766E#32, 0x3FA784F1#32, 0x3FA79376#32, 0x3FA7A1FB#32, 0x3FA7B082#32, 0x3FA7BF0A#32,
    0x3FA7CD94#32, 0x3FA7DC1E#32, 0x3FA7EAAA#32, 0x3FA7F937#32, 0x3FA807C6#32, 0x3FA81655#32, 0x3FA824E6#32, 0x3FA83379#32,
    0x3FA8420C#32, 0x3FA850A1#32, 0x3FA85F37#32, 0x3FA86DCE#32, 0x3FA87C66#32, 0x3FA88B00#32, 0x3FA8999B#32, 0x3FA8A838#32,
    0x3FA8B6D5#32, 0x3FA8C574#32, 0x3FA8D414#32, 0x3FA8E2B5#32, 0x3FA8F158#32, 0x3FA8FFFC#32, 0x3FA90EA1#32, 0x3FA91D48#32,
    0x3FA92BEF#32, 0x3FA93A98#32, 0x3FA94942#32, 0x3FA957EE#32, 0x3FA9669B#32, 0x3FA97549#32, 0x3FA983F8#32, 0x3FA992A9#32 ]

/-- `TABLE[832]` to `TABLE[895]` (R86). -/
def tableBlock13 : List Word :=
  [ 0x3FA9A15B#32, 0x3FA9B00E#32, 0x3FA9BEC2#32, 0x3FA9CD78#32, 0x3FA9DC2F#32, 0x3FA9EAE7#32, 0x3FA9F9A1#32, 0x3FAA085C#32,
    0x3FAA1718#32, 0x3FAA25D5#32, 0x3FAA3494#32, 0x3FAA4354#32, 0x3FAA5215#32, 0x3FAA60D7#32, 0x3FAA6F9B#32, 0x3FAA7E60#32,
    0x3FAA8D26#32, 0x3FAA9BEE#32, 0x3FAAAAB7#32, 0x3FAAB981#32, 0x3FAAC84C#32, 0x3FAAD719#32, 0x3FAAE5E7#32, 0x3FAAF4B6#32,
    0x3FAB0387#32, 0x3FAB1259#32, 0x3FAB212C#32, 0x3FAB3000#32, 0x3FAB3ED6#32, 0x3FAB4DAD#32, 0x3FAB5C85#32, 0x3FAB6B5F#32,
    0x3FAB7A3A#32, 0x3FAB8916#32, 0x3FAB97F3#32, 0x3FABA6D2#32, 0x3FABB5B2#32, 0x3FABC493#32, 0x3FABD376#32, 0x3FABE25A#32,
    0x3FABF13F#32, 0x3FAC0025#32, 0x3FAC0F0D#32, 0x3FAC1DF6#32, 0x3FAC2CE0#32, 0x3FAC3BCC#32, 0x3FAC4AB9#32, 0x3FAC59A7#32,
    0x3FAC6897#32, 0x3FAC7787#32, 0x3FAC867A#32, 0x3FAC956D#32, 0x3FACA462#32, 0x3FACB358#32, 0x3FACC24F#32, 0x3FACD147#32,
    0x3FACE041#32, 0x3FACEF3C#32, 0x3FACFE39#32, 0x3FAD0D37#32, 0x3FAD1C36#32, 0x3FAD2B36#32, 0x3FAD3A38#32, 0x3FAD493B#32 ]

/-- `TABLE[896]` to `TABLE[959]` (R86). -/
def tableBlock14 : List Word :=
  [ 0x3FAD583F#32, 0x3FAD6744#32, 0x3FAD764B#32, 0x3FAD8553#32, 0x3FAD945D#32, 0x3FADA368#32, 0x3FADB274#32, 0x3FADC181#32,
    0x3FADD090#32, 0x3FADDFA0#32, 0x3FADEEB1#32, 0x3FADFDC4#32, 0x3FAE0CD8#32, 0x3FAE1BED#32, 0x3FAE2B03#32, 0x3FAE3A1B#32,
    0x3FAE4934#32, 0x3FAE584F#32, 0x3FAE676B#32, 0x3FAE7688#32, 0x3FAE85A6#32, 0x3FAE94C6#32, 0x3FAEA3E7#32, 0x3FAEB309#32,
    0x3FAEC22D#32, 0x3FAED151#32, 0x3FAEE078#32, 0x3FAEEF9F#32, 0x3FAEFEC8#32, 0x3FAF0DF2#32, 0x3FAF1D1E#32, 0x3FAF2C4B#32,
    0x3FAF3B79#32, 0x3FAF4AA8#32, 0x3FAF59D9#32, 0x3FAF690B#32, 0x3FAF783E#32, 0x3FAF8773#32, 0x3FAF96A9#32, 0x3FAFA5E0#32,
    0x3FAFB519#32, 0x3FAFC453#32, 0x3FAFD38E#32, 0x3FAFE2CB#32, 0x3FAFF209#32, 0x3FB00148#32, 0x3FB01089#32, 0x3FB01FCB#32,
    0x3FB02F0E#32, 0x3FB03E52#32, 0x3FB04D98#32, 0x3FB05CDF#32, 0x3FB06C28#32, 0x3FB07B72#32, 0x3FB08ABD#32, 0x3FB09A09#32,
    0x3FB0A957#32, 0x3FB0B8A6#32, 0x3FB0C7F7#32, 0x3FB0D749#32, 0x3FB0E69C#32, 0x3FB0F5F0#32, 0x3FB10546#32, 0x3FB1149D#32 ]

/-- `TABLE[960]` to `TABLE[1023]` (R86). -/
def tableBlock15 : List Word :=
  [ 0x3FB123F6#32, 0x3FB1334F#32, 0x3FB142AA#32, 0x3FB15207#32, 0x3FB16165#32, 0x3FB170C4#32, 0x3FB18024#32, 0x3FB18F86#32,
    0x3FB19EE9#32, 0x3FB1AE4D#32, 0x3FB1BDB3#32, 0x3FB1CD1A#32, 0x3FB1DC83#32, 0x3FB1EBEC#32, 0x3FB1FB57#32, 0x3FB20AC4#32,
    0x3FB21A32#32, 0x3FB229A1#32, 0x3FB23911#32, 0x3FB24883#32, 0x3FB257F6#32, 0x3FB2676B#32, 0x3FB276E0#32, 0x3FB28657#32,
    0x3FB295D0#32, 0x3FB2A54A#32, 0x3FB2B4C5#32, 0x3FB2C441#32, 0x3FB2D3BF#32, 0x3FB2E33E#32, 0x3FB2F2BF#32, 0x3FB30241#32,
    0x3FB311C4#32, 0x3FB32149#32, 0x3FB330CF#32, 0x3FB34056#32, 0x3FB34FDE#32, 0x3FB35F68#32, 0x3FB36EF4#32, 0x3FB37E80#32,
    0x3FB38E0E#32, 0x3FB39D9E#32, 0x3FB3AD2E#32, 0x3FB3BCC0#32, 0x3FB3CC54#32, 0x3FB3DBE8#32, 0x3FB3EB7E#32, 0x3FB3FB16#32,
    0x3FB40AAF#32, 0x3FB41A49#32, 0x3FB429E4#32, 0x3FB43981#32, 0x3FB4491F#32, 0x3FB458BF#32, 0x3FB46860#32, 0x3FB47802#32,
    0x3FB487A6#32, 0x3FB4974B#32, 0x3FB4A6F1#32, 0x3FB4B698#32, 0x3FB4C642#32, 0x3FB4D5EC#32, 0x3FB4E598#32, 0x3FB4F545#32 ]

/-- `TABLE[1024]` to `TABLE[1087]` (R86). -/
def tableBlock16 : List Word :=
  [ 0x3FB504F3#32, 0x3FB514A3#32, 0x3FB52454#32, 0x3FB53407#32, 0x3FB543BB#32, 0x3FB55370#32, 0x3FB56327#32, 0x3FB572DE#32,
    0x3FB58298#32, 0x3FB59253#32, 0x3FB5A20F#32, 0x3FB5B1CC#32, 0x3FB5C18B#32, 0x3FB5D14B#32, 0x3FB5E10D#32, 0x3FB5F0CF#32,
    0x3FB60094#32, 0x3FB61059#32, 0x3FB62020#32, 0x3FB62FE9#32, 0x3FB63FB2#32, 0x3FB64F7D#32, 0x3FB65F4A#32, 0x3FB66F18#32,
    0x3FB67EE7#32, 0x3FB68EB8#32, 0x3FB69E89#32, 0x3FB6AE5D#32, 0x3FB6BE31#32, 0x3FB6CE07#32, 0x3FB6DDDF#32, 0x3FB6EDB8#32,
    0x3FB6FD92#32, 0x3FB70D6D#32, 0x3FB71D4A#32, 0x3FB72D29#32, 0x3FB73D08#32, 0x3FB74CE9#32, 0x3FB75CCC#32, 0x3FB76CB0#32,
    0x3FB77C95#32, 0x3FB78C7B#32, 0x3FB79C63#32, 0x3FB7AC4D#32, 0x3FB7BC37#32, 0x3FB7CC23#32, 0x3FB7DC11#32, 0x3FB7EC00#32,
    0x3FB7FBF0#32, 0x3FB80BE1#32, 0x3FB81BD4#32, 0x3FB82BC9#32, 0x3FB83BBE#32, 0x3FB84BB6#32, 0x3FB85BAE#32, 0x3FB86BA8#32,
    0x3FB87BA3#32, 0x3FB88BA0#32, 0x3FB89B9E#32, 0x3FB8AB9D#32, 0x3FB8BB9E#32, 0x3FB8CBA0#32, 0x3FB8DBA4#32, 0x3FB8EBA9#32 ]

/-- `TABLE[1088]` to `TABLE[1151]` (R86). -/
def tableBlock17 : List Word :=
  [ 0x3FB8FBAF#32, 0x3FB90BB7#32, 0x3FB91BC0#32, 0x3FB92BCB#32, 0x3FB93BD7#32, 0x3FB94BE4#32, 0x3FB95BF3#32, 0x3FB96C03#32,
    0x3FB97C14#32, 0x3FB98C27#32, 0x3FB99C3B#32, 0x3FB9AC51#32, 0x3FB9BC68#32, 0x3FB9CC81#32, 0x3FB9DC9A#32, 0x3FB9ECB6#32,
    0x3FB9FCD2#32, 0x3FBA0CF0#32, 0x3FBA1D10#32, 0x3FBA2D31#32, 0x3FBA3D53#32, 0x3FBA4D76#32, 0x3FBA5D9B#32, 0x3FBA6DC2#32,
    0x3FBA7DEA#32, 0x3FBA8E13#32, 0x3FBA9E3E#32, 0x3FBAAE6A#32, 0x3FBABE97#32, 0x3FBACEC6#32, 0x3FBADEF6#32, 0x3FBAEF28#32,
    0x3FBAFF5B#32, 0x3FBB0F8F#32, 0x3FBB1FC5#32, 0x3FBB2FFC#32, 0x3FBB4035#32, 0x3FBB506F#32, 0x3FBB60AA#32, 0x3FBB70E7#32,
    0x3FBB8126#32, 0x3FBB9165#32, 0x3FBBA1A6#32, 0x3FBBB1E9#32, 0x3FBBC22D#32, 0x3FBBD272#32, 0x3FBBE2B9#32, 0x3FBBF301#32,
    0x3FBC034A#32, 0x3FBC1395#32, 0x3FBC23E2#32, 0x3FBC3430#32, 0x3FBC447F#32, 0x3FBC54CF#32, 0x3FBC6521#32, 0x3FBC7575#32,
    0x3FBC85CA#32, 0x3FBC9620#32, 0x3FBCA678#32, 0x3FBCB6D1#32, 0x3FBCC72B#32, 0x3FBCD787#32, 0x3FBCE7E5#32, 0x3FBCF843#32 ]

/-- `TABLE[1152]` to `TABLE[1215]` (R86). -/
def tableBlock18 : List Word :=
  [ 0x3FBD08A4#32, 0x3FBD1905#32, 0x3FBD2968#32, 0x3FBD39CD#32, 0x3FBD4A33#32, 0x3FBD5A9A#32, 0x3FBD6B03#32, 0x3FBD7B6D#32,
    0x3FBD8BD8#32, 0x3FBD9C45#32, 0x3FBDACB4#32, 0x3FBDBD24#32, 0x3FBDCD95#32, 0x3FBDDE07#32, 0x3FBDEE7C#32, 0x3FBDFEF1#32,
    0x3FBE0F68#32, 0x3FBE1FE0#32, 0x3FBE305A#32, 0x3FBE40D5#32, 0x3FBE5152#32, 0x3FBE61D0#32, 0x3FBE7250#32, 0x3FBE82D1#32,
    0x3FBE9353#32, 0x3FBEA3D7#32, 0x3FBEB45C#32, 0x3FBEC4E3#32, 0x3FBED56B#32, 0x3FBEE5F4#32, 0x3FBEF67F#32, 0x3FBF070C#32,
    0x3FBF179A#32, 0x3FBF2829#32, 0x3FBF38BA#32, 0x3FBF494C#32, 0x3FBF59DF#32, 0x3FBF6A74#32, 0x3FBF7B0B#32, 0x3FBF8BA3#32,
    0x3FBF9C3C#32, 0x3FBFACD7#32, 0x3FBFBD73#32, 0x3FBFCE11#32, 0x3FBFDEB0#32, 0x3FBFEF50#32, 0x3FBFFFF2#32, 0x3FC01096#32,
    0x3FC0213B#32, 0x3FC031E1#32, 0x3FC04289#32, 0x3FC05332#32, 0x3FC063DC#32, 0x3FC07489#32, 0x3FC08536#32, 0x3FC095E5#32,
    0x3FC0A695#32, 0x3FC0B747#32, 0x3FC0C7FB#32, 0x3FC0D8AF#32, 0x3FC0E966#32, 0x3FC0FA1D#32, 0x3FC10AD6#32, 0x3FC11B91#32 ]

/-- `TABLE[1216]` to `TABLE[1279]` (R86). -/
def tableBlock19 : List Word :=
  [ 0x3FC12C4D#32, 0x3FC13D0A#32, 0x3FC14DC9#32, 0x3FC15E89#32, 0x3FC16F4B#32, 0x3FC1800F#32, 0x3FC190D3#32, 0x3FC1A199#32,
    0x3FC1B261#32, 0x3FC1C32A#32, 0x3FC1D3F5#32, 0x3FC1E4C1#32, 0x3FC1F58E#32, 0x3FC2065D#32, 0x3FC2172D#32, 0x3FC227FF#32,
    0x3FC238D2#32, 0x3FC249A7#32, 0x3FC25A7D#32, 0x3FC26B55#32, 0x3FC27C2E#32, 0x3FC28D08#32, 0x3FC29DE4#32, 0x3FC2AEC2#32,
    0x3FC2BFA1#32, 0x3FC2D081#32, 0x3FC2E163#32, 0x3FC2F246#32, 0x3FC3032B#32, 0x3FC31411#32, 0x3FC324F9#32, 0x3FC335E2#32,
    0x3FC346CD#32, 0x3FC357B9#32, 0x3FC368A7#32, 0x3FC37996#32, 0x3FC38A86#32, 0x3FC39B78#32, 0x3FC3AC6B#32, 0x3FC3BD60#32,
    0x3FC3CE57#32, 0x3FC3DF4F#32, 0x3FC3F048#32, 0x3FC40143#32, 0x3FC4123F#32, 0x3FC4233D#32, 0x3FC4343C#32, 0x3FC4453D#32,
    0x3FC4563F#32, 0x3FC46742#32, 0x3FC47848#32, 0x3FC4894E#32, 0x3FC49A56#32, 0x3FC4AB60#32, 0x3FC4BC6B#32, 0x3FC4CD77#32,
    0x3FC4DE85#32, 0x3FC4EF95#32, 0x3FC500A5#32, 0x3FC511B8#32, 0x3FC522CC#32, 0x3FC533E1#32, 0x3FC544F8#32, 0x3FC55610#32 ]

/-- `TABLE[1280]` to `TABLE[1343]` (R86). -/
def tableBlock20 : List Word :=
  [ 0x3FC5672A#32, 0x3FC57845#32, 0x3FC58962#32, 0x3FC59A80#32, 0x3FC5ABA0#32, 0x3FC5BCC1#32, 0x3FC5CDE4#32, 0x3FC5DF08#32,
    0x3FC5F02E#32, 0x3FC60155#32, 0x3FC6127E#32, 0x3FC623A8#32, 0x3FC634D3#32, 0x3FC64600#32, 0x3FC6572F#32, 0x3FC6685F#32,
    0x3FC67991#32, 0x3FC68AC4#32, 0x3FC69BF8#32, 0x3FC6AD2E#32, 0x3FC6BE66#32, 0x3FC6CF9F#32, 0x3FC6E0D9#32, 0x3FC6F215#32,
    0x3FC70353#32, 0x3FC71492#32, 0x3FC725D2#32, 0x3FC73714#32, 0x3FC74858#32, 0x3FC7599D#32, 0x3FC76AE3#32, 0x3FC77C2B#32,
    0x3FC78D75#32, 0x3FC79EC0#32, 0x3FC7B00C#32, 0x3FC7C15A#32, 0x3FC7D2AA#32, 0x3FC7E3FB#32, 0x3FC7F54D#32, 0x3FC806A1#32,
    0x3FC817F7#32, 0x3FC8294D#32, 0x3FC83AA6#32, 0x3FC84C00#32, 0x3FC85D5B#32, 0x3FC86EB8#32, 0x3FC88017#32, 0x3FC89177#32,
    0x3FC8A2D8#32, 0x3FC8B43B#32, 0x3FC8C5A0#32, 0x3FC8D706#32, 0x3FC8E86D#32, 0x3FC8F9D6#32, 0x3FC90B41#32, 0x3FC91CAD#32,
    0x3FC92E1B#32, 0x3FC93F8A#32, 0x3FC950FA#32, 0x3FC9626C#32, 0x3FC973E0#32, 0x3FC98555#32, 0x3FC996CC#32, 0x3FC9A844#32 ]

/-- `TABLE[1344]` to `TABLE[1407]` (R86). -/
def tableBlock21 : List Word :=
  [ 0x3FC9B9BE#32, 0x3FC9CB39#32, 0x3FC9DCB5#32, 0x3FC9EE34#32, 0x3FC9FFB3#32, 0x3FCA1135#32, 0x3FCA22B7#32, 0x3FCA343C#32,
    0x3FCA45C1#32, 0x3FCA5749#32, 0x3FCA68D1#32, 0x3FCA7A5C#32, 0x3FCA8BE8#32, 0x3FCA9D75#32, 0x3FCAAF04#32, 0x3FCAC094#32,
    0x3FCAD226#32, 0x3FCAE3BA#32, 0x3FCAF54F#32, 0x3FCB06E5#32, 0x3FCB187D#32, 0x3FCB2A17#32, 0x3FCB3BB2#32, 0x3FCB4D4F#32,
    0x3FCB5EED#32, 0x3FCB708C#32, 0x3FCB822E#32, 0x3FCB93D0#32, 0x3FCBA575#32, 0x3FCBB71A#32, 0x3FCBC8C2#32, 0x3FCBDA6B#32,
    0x3FCBEC15#32, 0x3FCBFDC1#32, 0x3FCC0F6E#32, 0x3FCC211D#32, 0x3FCC32CE#32, 0x3FCC4480#32, 0x3FCC5633#32, 0x3FCC67E9#32,
    0x3FCC799F#32, 0x3FCC8B57#32, 0x3FCC9D11#32, 0x3FCCAECC#32, 0x3FCCC089#32, 0x3FCCD247#32, 0x3FCCE407#32, 0x3FCCF5C9#32,
    0x3FCD078C#32, 0x3FCD1950#32, 0x3FCD2B16#32, 0x3FCD3CDE#32, 0x3FCD4EA7#32, 0x3FCD6071#32, 0x3FCD723D#32, 0x3FCD840B#32,
    0x3FCD95DA#32, 0x3FCDA7AB#32, 0x3FCDB97E#32, 0x3FCDCB51#32, 0x3FCDDD27#32, 0x3FCDEEFE#32, 0x3FCE00D6#32, 0x3FCE12B0#32 ]

/-- `TABLE[1408]` to `TABLE[1471]` (R86). -/
def tableBlock22 : List Word :=
  [ 0x3FCE248C#32, 0x3FCE3669#32, 0x3FCE4848#32, 0x3FCE5A28#32, 0x3FCE6C0A#32, 0x3FCE7DED#32, 0x3FCE8FD2#32, 0x3FCEA1B9#32,
    0x3FCEB3A1#32, 0x3FCEC58A#32, 0x3FCED775#32, 0x3FCEE962#32, 0x3FCEFB50#32, 0x3FCF0D40#32, 0x3FCF1F31#32, 0x3FCF3124#32,
    0x3FCF4319#32, 0x3FCF550F#32, 0x3FCF6706#32, 0x3FCF78FF#32, 0x3FCF8AFA#32, 0x3FCF9CF6#32, 0x3FCFAEF4#32, 0x3FCFC0F4#32,
    0x3FCFD2F4#32, 0x3FCFE4F7#32, 0x3FCFF6FB#32, 0x3FD00900#32, 0x3FD01B08#32, 0x3FD02D10#32, 0x3FD03F1B#32, 0x3FD05126#32,
    0x3FD06334#32, 0x3FD07543#32, 0x3FD08753#32, 0x3FD09965#32, 0x3FD0AB79#32, 0x3FD0BD8E#32, 0x3FD0CFA5#32, 0x3FD0E1BD#32,
    0x3FD0F3D7#32, 0x3FD105F3#32, 0x3FD11810#32, 0x3FD12A2F#32, 0x3FD13C4F#32, 0x3FD14E71#32, 0x3FD16094#32, 0x3FD172B9#32,
    0x3FD184DF#32, 0x3FD19707#32, 0x3FD1A931#32, 0x3FD1BB5C#32, 0x3FD1CD89#32, 0x3FD1DFB7#32, 0x3FD1F1E7#32, 0x3FD20419#32,
    0x3FD2164C#32, 0x3FD22881#32, 0x3FD23AB7#32, 0x3FD24CEF#32, 0x3FD25F28#32, 0x3FD27163#32, 0x3FD283A0#32, 0x3FD295DE#32 ]

/-- `TABLE[1472]` to `TABLE[1535]` (R86). -/
def tableBlock23 : List Word :=
  [ 0x3FD2A81E#32, 0x3FD2BA5F#32, 0x3FD2CCA2#32, 0x3FD2DEE6#32, 0x3FD2F12C#32, 0x3FD30374#32, 0x3FD315BD#32, 0x3FD32808#32,
    0x3FD33A54#32, 0x3FD34CA2#32, 0x3FD35EF2#32, 0x3FD37143#32, 0x3FD38396#32, 0x3FD395EA#32, 0x3FD3A840#32, 0x3FD3BA98#32,
    0x3FD3CCF1#32, 0x3FD3DF4B#32, 0x3FD3F1A8#32, 0x3FD40405#32, 0x3FD41665#32, 0x3FD428C6#32, 0x3FD43B29#32, 0x3FD44D8D#32,
    0x3FD45FF3#32, 0x3FD4725A#32, 0x3FD484C3#32, 0x3FD4972E#32, 0x3FD4A99A#32, 0x3FD4BC08#32, 0x3FD4CE77#32, 0x3FD4E0E8#32,
    0x3FD4F35B#32, 0x3FD505CF#32, 0x3FD51845#32, 0x3FD52ABC#32, 0x3FD53D35#32, 0x3FD54FB0#32, 0x3FD5622C#32, 0x3FD574AA#32,
    0x3FD58729#32, 0x3FD599AA#32, 0x3FD5AC2D#32, 0x3FD5BEB1#32, 0x3FD5D137#32, 0x3FD5E3BE#32, 0x3FD5F647#32, 0x3FD608D2#32,
    0x3FD61B5E#32, 0x3FD62DEC#32, 0x3FD6407B#32, 0x3FD6530C#32, 0x3FD6659F#32, 0x3FD67833#32, 0x3FD68AC9#32, 0x3FD69D61#32,
    0x3FD6AFFA#32, 0x3FD6C295#32, 0x3FD6D531#32, 0x3FD6E7CF#32, 0x3FD6FA6E#32, 0x3FD70D10#32, 0x3FD71FB2#32, 0x3FD73257#32 ]

/-- `TABLE[1536]` to `TABLE[1599]` (R86). -/
def tableBlock24 : List Word :=
  [ 0x3FD744FD#32, 0x3FD757A4#32, 0x3FD76A4E#32, 0x3FD77CF9#32, 0x3FD78FA5#32, 0x3FD7A253#32, 0x3FD7B503#32, 0x3FD7C7B4#32,
    0x3FD7DA67#32, 0x3FD7ED1C#32, 0x3FD7FFD2#32, 0x3FD8128A#32, 0x3FD82543#32, 0x3FD837FE#32, 0x3FD84ABB#32, 0x3FD85D79#32,
    0x3FD87039#32, 0x3FD882FB#32, 0x3FD895BE#32, 0x3FD8A883#32, 0x3FD8BB49#32, 0x3FD8CE11#32, 0x3FD8E0DB#32, 0x3FD8F3A6#32,
    0x3FD90673#32, 0x3FD91942#32, 0x3FD92C12#32, 0x3FD93EE4#32, 0x3FD951B8#32, 0x3FD9648D#32, 0x3FD97763#32, 0x3FD98A3C#32,
    0x3FD99D16#32, 0x3FD9AFF1#32, 0x3FD9C2CF#32, 0x3FD9D5AE#32, 0x3FD9E88E#32, 0x3FD9FB70#32, 0x3FDA0E54#32, 0x3FDA213A#32,
    0x3FDA3421#32, 0x3FDA4709#32, 0x3FDA59F4#32, 0x3FDA6CE0#32, 0x3FDA7FCD#32, 0x3FDA92BD#32, 0x3FDAA5AE#32, 0x3FDAB8A0#32,
    0x3FDACB94#32, 0x3FDADE8A#32, 0x3FDAF182#32, 0x3FDB047B#32, 0x3FDB1776#32, 0x3FDB2A72#32, 0x3FDB3D70#32, 0x3FDB5070#32,
    0x3FDB6371#32, 0x3FDB7674#32, 0x3FDB8979#32, 0x3FDB9C7F#32, 0x3FDBAF87#32, 0x3FDBC291#32, 0x3FDBD59C#32, 0x3FDBE8A9#32 ]

/-- `TABLE[1600]` to `TABLE[1663]` (R86). -/
def tableBlock25 : List Word :=
  [ 0x3FDBFBB8#32, 0x3FDC0EC8#32, 0x3FDC21DA#32, 0x3FDC34ED#32, 0x3FDC4802#32, 0x3FDC5B19#32, 0x3FDC6E32#32, 0x3FDC814C#32,
    0x3FDC9468#32, 0x3FDCA785#32, 0x3FDCBAA4#32, 0x3FDCCDC5#32, 0x3FDCE0E7#32, 0x3FDCF40B#32, 0x3FDD0731#32, 0x3FDD1A58#32,
    0x3FDD2D82#32, 0x3FDD40AC#32, 0x3FDD53D9#32, 0x3FDD6707#32, 0x3FDD7A36#32, 0x3FDD8D68#32, 0x3FDDA09B#32, 0x3FDDB3CF#32,
    0x3FDDC706#32, 0x3FDDDA3E#32, 0x3FDDED77#32, 0x3FDE00B3#32, 0x3FDE13F0#32, 0x3FDE272E#32, 0x3FDE3A6F#32, 0x3FDE4DB1#32,
    0x3FDE60F5#32, 0x3FDE743A#32, 0x3FDE8781#32, 0x3FDE9ACA#32, 0x3FDEAE14#32, 0x3FDEC160#32, 0x3FDED4AE#32, 0x3FDEE7FD#32,
    0x3FDEFB4E#32, 0x3FDF0EA1#32, 0x3FDF21F5#32, 0x3FDF354B#32, 0x3FDF48A3#32, 0x3FDF5BFD#32, 0x3FDF6F58#32, 0x3FDF82B4#32,
    0x3FDF9613#32, 0x3FDFA973#32, 0x3FDFBCD5#32, 0x3FDFD038#32, 0x3FDFE39E#32, 0x3FDFF704#32, 0x3FE00A6D#32, 0x3FE01DD7#32,
    0x3FE03143#32, 0x3FE044B1#32, 0x3FE05820#32, 0x3FE06B91#32, 0x3FE07F03#32, 0x3FE09278#32, 0x3FE0A5EE#32, 0x3FE0B966#32 ]

/-- `TABLE[1664]` to `TABLE[1727]` (R86). -/
def tableBlock26 : List Word :=
  [ 0x3FE0CCDF#32, 0x3FE0E05A#32, 0x3FE0F3D7#32, 0x3FE10755#32, 0x3FE11AD5#32, 0x3FE12E57#32, 0x3FE141DB#32, 0x3FE15560#32,
    0x3FE168E7#32, 0x3FE17C6F#32, 0x3FE18FFA#32, 0x3FE1A386#32, 0x3FE1B713#32, 0x3FE1CAA3#32, 0x3FE1DE34#32, 0x3FE1F1C7#32,
    0x3FE2055B#32, 0x3FE218F1#32, 0x3FE22C89#32, 0x3FE24023#32, 0x3FE253BE#32, 0x3FE2675B#32, 0x3FE27AF9#32, 0x3FE28E9A#32,
    0x3FE2A23C#32, 0x3FE2B5E0#32, 0x3FE2C985#32, 0x3FE2DD2C#32, 0x3FE2F0D5#32, 0x3FE30480#32, 0x3FE3182C#32, 0x3FE32BDA#32,
    0x3FE33F89#32, 0x3FE3533B#32, 0x3FE366EE#32, 0x3FE37AA3#32, 0x3FE38E59#32, 0x3FE3A211#32, 0x3FE3B5CB#32, 0x3FE3C987#32,
    0x3FE3DD44#32, 0x3FE3F103#32, 0x3FE404C4#32, 0x3FE41887#32, 0x3FE42C4B#32, 0x3FE44011#32, 0x3FE453D8#32, 0x3FE467A2#32,
    0x3FE47B6D#32, 0x3FE48F39#32, 0x3FE4A308#32, 0x3FE4B6D8#32, 0x3FE4CAAA#32, 0x3FE4DE7E#32, 0x3FE4F253#32, 0x3FE5062A#32,
    0x3FE51A03#32, 0x3FE52DDD#32, 0x3FE541B9#32, 0x3FE55597#32, 0x3FE56977#32, 0x3FE57D58#32, 0x3FE5913C#32, 0x3FE5A520#32 ]

/-- `TABLE[1728]` to `TABLE[1791]` (R86). -/
def tableBlock27 : List Word :=
  [ 0x3FE5B907#32, 0x3FE5CCEF#32, 0x3FE5E0D9#32, 0x3FE5F4C5#32, 0x3FE608B2#32, 0x3FE61CA2#32, 0x3FE63092#32, 0x3FE64485#32,
    0x3FE65879#32, 0x3FE66C70#32, 0x3FE68067#32, 0x3FE69461#32, 0x3FE6A85C#32, 0x3FE6BC59#32, 0x3FE6D058#32, 0x3FE6E458#32,
    0x3FE6F85B#32, 0x3FE70C5F#32, 0x3FE72064#32, 0x3FE7346C#32, 0x3FE74875#32, 0x3FE75C80#32, 0x3FE7708C#32, 0x3FE7849B#32,
    0x3FE798AB#32, 0x3FE7ACBD#32, 0x3FE7C0D0#32, 0x3FE7D4E6#32, 0x3FE7E8FD#32, 0x3FE7FD15#32, 0x3FE81130#32, 0x3FE8254C#32,
    0x3FE8396A#32, 0x3FE84D8A#32, 0x3FE861AC#32, 0x3FE875CF#32, 0x3FE889F4#32, 0x3FE89E1B#32, 0x3FE8B243#32, 0x3FE8C66D#32,
    0x3FE8DA99#32, 0x3FE8EEC7#32, 0x3FE902F7#32, 0x3FE91728#32, 0x3FE92B5B#32, 0x3FE93F90#32, 0x3FE953C6#32, 0x3FE967FE#32,
    0x3FE97C38#32, 0x3FE99074#32, 0x3FE9A4B1#32, 0x3FE9B8F1#32, 0x3FE9CD32#32, 0x3FE9E175#32, 0x3FE9F5B9#32, 0x3FEA09FF#32,
    0x3FEA1E47#32, 0x3FEA3291#32, 0x3FEA46DD#32, 0x3FEA5B2A#32, 0x3FEA6F79#32, 0x3FEA83CA#32, 0x3FEA981C#32, 0x3FEAAC71#32 ]

/-- `TABLE[1792]` to `TABLE[1855]` (R86). -/
def tableBlock28 : List Word :=
  [ 0x3FEAC0C7#32, 0x3FEAD51F#32, 0x3FEAE978#32, 0x3FEAFDD4#32, 0x3FEB1231#32, 0x3FEB2690#32, 0x3FEB3AF1#32, 0x3FEB4F53#32,
    0x3FEB63B7#32, 0x3FEB781D#32, 0x3FEB8C85#32, 0x3FEBA0EF#32, 0x3FEBB55A#32, 0x3FEBC9C7#32, 0x3FEBDE36#32, 0x3FEBF2A6#32,
    0x3FEC0719#32, 0x3FEC1B8D#32, 0x3FEC3003#32, 0x3FEC447A#32, 0x3FEC58F4#32, 0x3FEC6D6F#32, 0x3FEC81EC#32, 0x3FEC966B#32,
    0x3FECAAEC#32, 0x3FECBF6E#32, 0x3FECD3F2#32, 0x3FECE878#32, 0x3FECFD00#32, 0x3FED1189#32, 0x3FED2614#32, 0x3FED3AA1#32,
    0x3FED4F30#32, 0x3FED63C1#32, 0x3FED7853#32, 0x3FED8CE7#32, 0x3FEDA17D#32, 0x3FEDB615#32, 0x3FEDCAAE#32, 0x3FEDDF4A#32,
    0x3FEDF3E7#32, 0x3FEE0886#32, 0x3FEE1D26#32, 0x3FEE31C9#32, 0x3FEE466D#32, 0x3FEE5B13#32, 0x3FEE6FBB#32, 0x3FEE8464#32,
    0x3FEE9910#32, 0x3FEEADBD#32, 0x3FEEC26C#32, 0x3FEED71C#32, 0x3FEEEBCF#32, 0x3FEF0083#32, 0x3FEF1539#32, 0x3FEF29F1#32,
    0x3FEF3EAB#32, 0x3FEF5367#32, 0x3FEF6824#32, 0x3FEF7CE3#32, 0x3FEF91A4#32, 0x3FEFA667#32, 0x3FEFBB2B#32, 0x3FEFCFF2#32 ]

/-- `TABLE[1856]` to `TABLE[1919]` (R86). -/
def tableBlock29 : List Word :=
  [ 0x3FEFE4BA#32, 0x3FEFF984#32, 0x3FF00E4F#32, 0x3FF0231D#32, 0x3FF037EC#32, 0x3FF04CBD#32, 0x3FF06190#32, 0x3FF07665#32,
    0x3FF08B3B#32, 0x3FF0A014#32, 0x3FF0B4EE#32, 0x3FF0C9CA#32, 0x3FF0DEA8#32, 0x3FF0F387#32, 0x3FF10868#32, 0x3FF11D4C#32,
    0x3FF13231#32, 0x3FF14717#32, 0x3FF15C00#32, 0x3FF170EB#32, 0x3FF185D7#32, 0x3FF19AC5#32, 0x3FF1AFB5#32, 0x3FF1C4A6#32,
    0x3FF1D99A#32, 0x3FF1EE8F#32, 0x3FF20386#32, 0x3FF2187F#32, 0x3FF22D7A#32, 0x3FF24277#32, 0x3FF25775#32, 0x3FF26C75#32,
    0x3FF28177#32, 0x3FF2967B#32, 0x3FF2AB81#32, 0x3FF2C088#32, 0x3FF2D592#32, 0x3FF2EA9D#32, 0x3FF2FFAA#32, 0x3FF314B9#32,
    0x3FF329C9#32, 0x3FF33EDC#32, 0x3FF353F0#32, 0x3FF36906#32, 0x3FF37E1E#32, 0x3FF39338#32, 0x3FF3A853#32, 0x3FF3BD71#32,
    0x3FF3D290#32, 0x3FF3E7B1#32, 0x3FF3FCD4#32, 0x3FF411F9#32, 0x3FF4271F#32, 0x3FF43C48#32, 0x3FF45172#32, 0x3FF4669E#32,
    0x3FF47BCC#32, 0x3FF490FB#32, 0x3FF4A62D#32, 0x3FF4BB60#32, 0x3FF4D096#32, 0x3FF4E5CD#32, 0x3FF4FB06#32, 0x3FF51040#32 ]

/-- `TABLE[1920]` to `TABLE[1983]` (R86). -/
def tableBlock30 : List Word :=
  [ 0x3FF5257D#32, 0x3FF53ABC#32, 0x3FF54FFC#32, 0x3FF5653E#32, 0x3FF57A82#32, 0x3FF58FC8#32, 0x3FF5A50F#32, 0x3FF5BA59#32,
    0x3FF5CFA4#32, 0x3FF5E4F1#32, 0x3FF5FA40#32, 0x3FF60F91#32, 0x3FF624E4#32, 0x3FF63A39#32, 0x3FF64F8F#32, 0x3FF664E7#32,
    0x3FF67A41#32, 0x3FF68F9D#32, 0x3FF6A4FB#32, 0x3FF6BA5B#32, 0x3FF6CFBC#32, 0x3FF6E520#32, 0x3FF6FA85#32, 0x3FF70FEC#32,
    0x3FF72555#32, 0x3FF73AC0#32, 0x3FF7502D#32, 0x3FF7659B#32, 0x3FF77B0B#32, 0x3FF7907E#32, 0x3FF7A5F2#32, 0x3FF7BB68#32,
    0x3FF7D0DF#32, 0x3FF7E659#32, 0x3FF7FBD5#32, 0x3FF81152#32, 0x3FF826D1#32, 0x3FF83C52#32, 0x3FF851D5#32, 0x3FF8675A#32,
    0x3FF87CE1#32, 0x3FF89269#32, 0x3FF8A7F4#32, 0x3FF8BD80#32, 0x3FF8D30E#32, 0x3FF8E89E#32, 0x3FF8FE30#32, 0x3FF913C4#32,
    0x3FF9295A#32, 0x3FF93EF1#32, 0x3FF9548B#32, 0x3FF96A26#32, 0x3FF97FC3#32, 0x3FF99562#32, 0x3FF9AB03#32, 0x3FF9C0A6#32,
    0x3FF9D64A#32, 0x3FF9EBF1#32, 0x3FFA0199#32, 0x3FFA1743#32, 0x3FFA2CF0#32, 0x3FFA429E#32, 0x3FFA584D#32, 0x3FFA6DFF#32 ]

/-- `TABLE[1984]` to `TABLE[2047]` (R86). -/
def tableBlock31 : List Word :=
  [ 0x3FFA83B3#32, 0x3FFA9968#32, 0x3FFAAF20#32, 0x3FFAC4D9#32, 0x3FFADA94#32, 0x3FFAF051#32, 0x3FFB0610#32, 0x3FFB1BD1#32,
    0x3FFB3194#32, 0x3FFB4758#32, 0x3FFB5D1F#32, 0x3FFB72E7#32, 0x3FFB88B2#32, 0x3FFB9E7E#32, 0x3FFBB44C#32, 0x3FFBCA1C#32,
    0x3FFBDFED#32, 0x3FFBF5C1#32, 0x3FFC0B97#32, 0x3FFC216E#32, 0x3FFC3748#32, 0x3FFC4D23#32, 0x3FFC6300#32, 0x3FFC78DF#32,
    0x3FFC8EC0#32, 0x3FFCA4A3#32, 0x3FFCBA88#32, 0x3FFCD06E#32, 0x3FFCE657#32, 0x3FFCFC41#32, 0x3FFD122E#32, 0x3FFD281C#32,
    0x3FFD3E0C#32, 0x3FFD53FE#32, 0x3FFD69F2#32, 0x3FFD7FE8#32, 0x3FFD95E0#32, 0x3FFDABD9#32, 0x3FFDC1D5#32, 0x3FFDD7D2#32,
    0x3FFDEDD2#32, 0x3FFE03D3#32, 0x3FFE19D6#32, 0x3FFE2FDB#32, 0x3FFE45E2#32, 0x3FFE5BEB#32, 0x3FFE71F6#32, 0x3FFE8803#32,
    0x3FFE9E11#32, 0x3FFEB422#32, 0x3FFECA34#32, 0x3FFEE049#32, 0x3FFEF65F#32, 0x3FFF0C77#32, 0x3FFF2291#32, 0x3FFF38AD#32,
    0x3FFF4ECB#32, 0x3FFF64EB#32, 0x3FFF7B0D#32, 0x3FFF9131#32, 0x3FFFA756#32, 0x3FFFBD7E#32, 0x3FFFD3A7#32, 0x3FFFE9D3#32 ]

/-- The blocks in order. -/
def tableBlocks : List (List Word) :=
  [ tableBlock0, tableBlock1, tableBlock2, tableBlock3, tableBlock4, tableBlock5, tableBlock6, tableBlock7,
    tableBlock8, tableBlock9, tableBlock10, tableBlock11, tableBlock12, tableBlock13, tableBlock14, tableBlock15,
    tableBlock16, tableBlock17, tableBlock18, tableBlock19, tableBlock20, tableBlock21, tableBlock22, tableBlock23,
    tableBlock24, tableBlock25, tableBlock26, tableBlock27, tableBlock28, tableBlock29, tableBlock30, tableBlock31 ]

/-- The Constant Table, word 0 first (R86). -/
def tableWords : List Word := tableBlocks.flatten

/-- The table has exactly 2048 words (R21). -/
theorem tableWords_length : tableWords.length = 2048 := by decide +kernel

/-- `TABLE[k]` (R82): the index type leaves no case outside the table (R85). -/
def tableWord (k : TableIndex) : Word :=
  tableWords[k.toNat]'(by rw [tableWords_length]; exact k.isLt)

end Sys2Proof.Machine
end

