-- ==== Sys2Proof/Machine/Ops.lean ====
section
/-! DEFINITION. The shared operations: on one lane, on all lanes, and on the sequencer.  There is no exception to take and
none to return from (R190, R196, R197): nothing of that kind stands here. -/

namespace Sys2Proof.Machine

open Host (Outcome)

/-- What a meaning answers. -/
abbrev Result := Outcome State Fault Refusal

/-- One operation after another: a stop of the first is the stop of both. -/
def andThen (r : Result) (f : State → Result) : Result :=
  match r with
  | .next s => f s
  | .fault e => .fault e
  | .refused e => .refused e

/-- The NaN that a NaN-valued result of the draw numbered `draw` takes in a lane (R172): a free member of the NaN set. -/
def drawnNaN (draw lane : Nat) : Word := Binary32.nanPattern (Config.nanBits draw lane)

/-! ### Operations of one lane

Each writes one register of the lane from others of the same lane (R23).  `nan` is the pattern that the result takes if
it is a NaN. -/

/-- `NRAW <- fma(X, K_C, K_B)` (R91). -/
def Lane.bias (nan : Word) (l : Lane) : Lane := { l with nraw := (Binary32.fma l.x K_C K_B).getD nan }

/-- `N <- fsub(NRAW, K_B)` (R92). -/
def Lane.unbias (nan : Word) (l : Lane) : Lane := { l with n := (Binary32.fsub l.nraw K_B).getD nan }

/-- `T <- fma(N, K_NHI, X)` (R95). -/
def Lane.resHi (nan : Word) (l : Lane) : Lane := { l with t := (Binary32.fma l.n K_NHI l.x).getD nan }

/-- `T <- fma(N, K_NLO, T)` (R96). -/
def Lane.resLo (nan : Word) (l : Lane) : Lane := { l with t := (Binary32.fma l.n K_NLO l.t).getD nan }

/-- `K <- and32(bits(NRAW), 0x7FF)` (R112). -/
def Lane.index (l : Lane) : Lane := { l with k := indexOf l.nraw }

/-- `EW <- shl32(bits(NRAW)[31:11], 23)` (R113). -/
def Lane.expWord (l : Lane) : Lane := { l with ew := exponentWord l.nraw }

/-- `L <- TABLE[K]` (R82). -/
def Lane.fetch (l : Lane) : Lane := { l with l := tableWord l.k }

/-- `S <- add32(bits(L), EW)` (R125): an integer addition modulo `2^32`. -/
def Lane.patch (l : Lane) : Lane := { l with s := l.l + l.ew }

/-- `P <- fmul(T, K_C1)` (R136). -/
def Lane.mul (c1 : Config.Coefficient) (nan : Word) (l : Lane) : Lane :=
  { l with p := (Binary32.fmul l.t (K_C1 c1)).getD nan }

/-- `F <- fma(S, P, S)` (R137). -/
def Lane.comb (nan : Word) (l : Lane) : Lane := { l with f := (Binary32.fma l.s l.p l.s).getD nan }

/-- `M <- if flt(X, K_CUT) then 0xFFFFFFFF else 0` (R150). -/
def Lane.cmp (l : Lane) : Lane := { l with m := maskOf (Binary32.flt l.x K_CUT) }

/-- `Y <- andn32(bits(F), M)` (R151). -/
def Lane.mask (l : Lane) : Lane := { l with y := clear l.f l.m }

/-- The whole lane computation of one lane, in the order of R160, with the NaN of each of its six draws. -/
def Lane.expm (c1 : Config.Coefficient) (nan : Nat → Word) (l : Lane) : Lane :=
  ((((((((l.bias (nan 0)).unbias (nan 1)).index.expWord.fetch.patch).resHi (nan 2)).resLo (nan 3)).mul c1
    (nan 4)).comb (nan 5)).cmp).mask

/-! ### Operations on every lane

A lane operation acts on all `W` lanes together: no lane is idle, no lane affects another (R161; log entry 10). -/

/-- What the sequencer does next. -/
def State.goto (s : State) (code : StageCode) : State := { s with stage := code }

/-- An integer operation on every lane. -/
def State.eachLane (s : State) (f : Lane → Lane) : State := { s with lanes := s.lanes.map f }

/-- A floating-point operation on every lane: lane `i` gets the NaN drawn for it, and one draw is spent. -/
def State.drawLanes (s : State) (f : Word → Lane → Lane) : State :=
  { s with lanes := s.lanes.mapIdx (fun i l => f (drawnNaN s.draws i) l), draws := s.draws + 1 }

/-- `RR.BIAS` on every lane. -/
def State.bias (s : State) : State := (s.drawLanes Lane.bias).goto 0x03#5

/-- `RR.UNBIAS` on every lane. -/
def State.unbias (s : State) : State := (s.drawLanes Lane.unbias).goto 0x06#5

/-- `SR.INDEX` on every lane. -/
def State.index (s : State) : State := (s.eachLane Lane.index).goto 0x07#5

/-- `SR.EXPW` on every lane. -/
def State.expWord (s : State) : State := (s.eachLane Lane.expWord).goto 0x08#5

/-- `LUT.FETCH` on every lane. -/
def State.fetchTable (s : State) : State := (s.eachLane Lane.fetch).goto 0x09#5

/-- `XP.PATCH` on every lane. -/
def State.patch (s : State) : State := (s.eachLane Lane.patch).goto 0x04#5

/-- `RR.RESHI` on every lane. -/
def State.resHi (s : State) : State := (s.drawLanes Lane.resHi).goto 0x05#5

/-- `RR.RESLO` on every lane. -/
def State.resLo (s : State) : State := (s.drawLanes Lane.resLo).goto 0x0A#5

/-- `PE.MUL` on every lane. -/
def State.mul (s : State) : State := (s.drawLanes (Lane.mul s.params.c1)).goto 0x0B#5

/-- `PE.COMB` on every lane. -/
def State.comb (s : State) : State := (s.drawLanes Lane.comb).goto 0x0C#5

/-- `DC.CMP` on every lane. -/
def State.cmp (s : State) : State := (s.eachLane Lane.cmp).goto 0x0D#5

/-- `DC.MASK` on every lane. -/
def State.mask (s : State) : State := (s.eachLane Lane.mask).goto 0x0E#5

/-- The scale reconstruction on every lane, in the order of R115. -/
def State.scale (s : State) : State := s.index.expWord.fetchTable.patch

/-- The whole lane computation on every lane, in the order of R160. -/
def State.expm (s : State) : State := s.bias.unbias.scale.resHi.resLo.mul.comb.cmp.mask

/-! ### The sequencer -/

/-- The byte addresses of the chunk's elements in a buffer, lane 0 first: `BASE + 4*(CUR + i)` (R70). -/
def State.chunkAddrs (s : State) (base : Nat) : List Nat :=
  (List.range s.W).map fun i => elementAddr base (s.cur + i)

/-- The invocation whose arguments the sequencer registers hold. -/
def State.invocation (s : State) : Launch := ⟨s.len, s.inBase, s.outBase⟩

/-- Why the block may not read the element at an address, if it may not.  That a missing address comes before a misaligned
one, and that before a denied one, is the model's order (DESIGN CHOICE, log entry 15). -/
def State.readStop (s : State) (a : Nat) : Option Result :=
  if 2 ^ s.params.xlen < a + 4 then some (.fault (.addressOutsideSpace a))
  else if a % 4 ≠ 0 then some (.refused (.misaligned a))
  else if meetsAny s.unreadable a 4 then some (.refused (.unreadableWord a))
  else none

/-- Why the block may not write the element at an address, if it may not, in the same order. -/
def State.writeStop (s : State) (a : Nat) : Option Result :=
  if 2 ^ s.params.xlen < a + 4 then some (.fault (.addressOutsideSpace a))
  else if a % 4 ≠ 0 then some (.refused (.misaligned a))
  else if meetsAny s.unwritable a 4 then some (.refused (.unwritableWord a))
  else none

/-- The state after the chunk's words are in `X` of their lanes, each pattern taken as it is (R163). -/
def State.loaded (s : State) : State :=
  { s with
    lanes := s.lanes.mapIdx (fun i l => { l with x := s.mem.readWord (elementAddr s.inBase (s.cur + i)) })
    events := .loaded (s.chunkAddrs s.inBase) :: s.events
    stage := 0x02#5 }

/-- The chunk's output words with their addresses, lane 0 first (R165). -/
def State.chunkWords (s : State) : List (Nat × Word) :=
  s.lanes.mapIdx fun i l => (elementAddr s.outBase (s.cur + i), l.y)

/-- The state after every lane's `Y` is stored (R165).  The lane registers, which R23 calls discarded from here on, keep
what they hold until the next operation that writes them (DESIGN CHOICE, log entry 22). -/
def State.stored (s : State) : State :=
  { s with
    mem := s.mem.writeWords s.chunkWords
    events := .stored (s.chunkAddrs s.outBase) :: s.events
    stage := 0x0F#5 }

/-- `VX.LOAD`: the `W` word reads of the chunk, or the stop of the first element that cannot be read.  R45 does not fix the
order of the accesses; that the stop is the one of the lowest such lane is the model's (DESIGN CHOICE, log entry 15). -/
def State.loadChunk (s : State) : Result :=
  match (s.chunkAddrs s.inBase).findSome? s.readStop with
  | some stop => stop
  | none => .next s.loaded

/-- `VX.STORE`: the `W` word writes of the chunk, or the stop of the first element that cannot be written, of the lowest
such lane (DESIGN CHOICE, log entry 15). -/
def State.storeChunk (s : State) : Result :=
  match (s.chunkAddrs s.outBase).findSome? s.writeStop with
  | some stop => stop
  | none => .next s.stored

/-- The operation after the loop test of R166: another chunk or `VX.DONE`. -/
def loopTest (cur len : Nat) : StageCode := if cur < len then 0x01#5 else 0x10#5

/-- `VX.NEXT`: the cursor moves on by `W`, and the loop test decides what follows (R166).  The lane registers go
into the next chunk as they are (log entry 22). -/
def State.advance (s : State) : State :=
  { s with
    cur := xlenBits s.params (s.cur + s.W)
    stage := loopTest (xlenBits s.params (s.cur + s.W)) s.len }

/-- Whether one of two invocations writes a byte that the other reads or writes, so that the pair may not run at once
(R55, P8 of R162); two inputs may share bytes. -/
def Launch.conflicts (l o : Launch) : Bool :=
  rangesMeet l.inBase (4 * l.len) o.outBase (4 * o.len) ||
  (rangesMeet l.outBase (4 * l.len) o.inBase (4 * o.len) ||
  rangesMeet l.outBase (4 * l.len) o.outBase (4 * o.len))

/-- Whether an invocation breaks a precondition of R162. -/
def State.breaks (s : State) (l : Launch) : Precondition → Bool
  | .idle => s.busy
  | .lengthMultipleOfW => decide (l.len % s.W ≠ 0)
  | .basesAligned => decide (l.inBase % 4 ≠ 0) || decide (l.outBase % 4 ≠ 0)
  | .withinSpace =>
    decide (2 ^ s.params.xlen < l.inBase + 4 * l.len) || decide (2 ^ s.params.xlen < l.outBase + 4 * l.len)
  | .accessible => meetsAny s.unreadable l.inBase (4 * l.len) || meetsAny s.unwritable l.outBase (4 * l.len)
  | .buffersDisjoint => rangesMeet l.inBase (4 * l.len) l.outBase (4 * l.len)
  | .noOtherInvocation => s.others.any l.conflicts

/-- The preconditions of R162 that an invocation violates, all of them (R194). -/
def State.violations (s : State) (l : Launch) : List Precondition :=
  [.idle, .lengthMultipleOfW, .basesAligned, .withinSpace, .accessible, .buffersDisjoint, .noOtherInvocation].filter
    (s.breaks l)

/-- The state after an admitted `VX.START` (R162); the loop test comes at once, so an empty invocation goes straight to
`VX.DONE` (R169).  The host's tuple is taken. -/
def State.launched (s : State) (l : Launch) : State :=
  { s with
    len := l.len
    inBase := l.inBase
    outBase := l.outBase
    cur := 0
    busy := true
    start := none
    original := s.mem
    stage := loopTest 0 l.len }

/-- The state after `VX.DONE` (R167): idle, `DONE` signalled, the sequencer registers kept.  So are the lane
registers, of which R217 says nothing (DESIGN CHOICE, log entry 22). -/
def State.finished (s : State) : State :=
  { s with busy := false, events := .done :: s.events, stage := 0x00#5 }

end Sys2Proof.Machine
end

