-- ==== Sys2Proof/Machine/ConstantTable.lean ====
section
/-! DEFINITION. The table fetch (40_constant_table.md): `LUT.FETCH`. -/

namespace Sys2Proof.Machine

/-- `LUT.FETCH` (R82): each lane fetches the table word at its own index (R83). -/
def execLutFetch (s : State) : Result := .next s.fetchTable

end Sys2Proof.Machine
end

