-- ==== Sys2Proof/Machine/DomainClamp.lean ====
section
/-! DEFINITION. The Domain Clamp (45_domain_clamp.md): `DC.CMP`, `DC.MASK`. -/

namespace Sys2Proof.Machine

/-- `DC.CMP` (R150): the unmodified input against the cutoff (R156), as a mask. -/
def execDcCmp (s : State) : Result := .next s.cmp

/-- `DC.MASK` (R151): the result's bits cleared by the mask; no branch. -/
def execDcMask (s : State) : Result := .next s.mask

end Sys2Proof.Machine
end

