-- ==== Sys2Proof/Machine/ExponentPatcher.lean ====
section
/-! DEFINITION. The exponent patcher (43_ieee754_exponent_patcher.md): `XP.PATCH`. -/

namespace Sys2Proof.Machine

/-- `XP.PATCH` (R125): a 32-bit integer addition; a carry out of bit 31 is dropped, nothing saturates (R128). -/
def execXpPatch (s : State) : Result := .next s.patch

end Sys2Proof.Machine
end

