-- ==== Sys2Proof/Machine/PolynomialEvaluator.lean ====
section
/-! DEFINITION. The Polynomial Evaluator (44_minimax_polynomial_evaluator.md), degree 1 (R138): `PE.MUL`, `PE.COMB`. -/

namespace Sys2Proof.Machine

/-- `PE.MUL` (R136), with the coefficient the block has (R139). -/
def execPeMul (s : State) : Result := .next s.mul

/-- `PE.COMB` (R137): the final combine, one fused operation. -/
def execPeComb (s : State) : Result := .next s.comb

end Sys2Proof.Machine
end

