-- ==== Sys2Proof/Machine/RangeReducer.lean ====
section
/-! DEFINITION. The Range Reducer (41_range_reducer_ln2.md): `RR.BIAS`, `RR.UNBIAS`, `RR.RESHI`, `RR.RESLO`. -/

namespace Sys2Proof.Machine

/-- `RR.BIAS` (R91): the fused `x*C + B` with one rounding, never two. -/
def execRrBias (s : State) : Result := .next s.bias

/-- `RR.UNBIAS` (R92). -/
def execRrUnbias (s : State) : Result := .next s.unbias

/-- `RR.RESHI` (R95): the first of the two fused subtractions (R98). -/
def execRrReshi (s : State) : Result := .next s.resHi

/-- `RR.RESLO` (R96): the second, from the `T` that `RR.RESHI` wrote (R98). -/
def execRrReslo (s : State) : Result := .next s.resLo

end Sys2Proof.Machine
end

