-- ==== Sys2Proof/Machine/ScaleReconstructor.lean ====
section
/-! DEFINITION. The Scale Reconstructor (42_scale_reconstructor_exponent.md): `SR.INDEX`, `SR.EXPW` and the
pseudo-operation `SR.SCALE`.  The integer operations read the pattern of `NRAW`, never that of `N` (R111). -/

namespace Sys2Proof.Machine

/-- `SR.INDEX` (R112): the low 11 bits of `NRAW`, a legal index for every word whatever. -/
def execSrIndex (s : State) : Result := .next s.index

/-- `SR.EXPW` (R113): bits 19..11 of `NRAW` placed at bits 31..23. -/
def execSrExpw (s : State) : Result := .next s.expWord

/-- `SR.SCALE` (R115): `SR.INDEX; SR.EXPW; LUT.FETCH; XP.PATCH`. -/
def execSrScale (s : State) : Result := .next s.scale

end Sys2Proof.Machine
end

