-- ==== Sys2Proof/Machine/VectorBatch.lean ====
section
/-! DEFINITION. The lane pipeline and the batch sequencer (46_vector_batch.md): `LANE.EXPM`, `VX.START`, `VX.LOAD`,
`VX.CHUNK`, `VX.STORE`, `VX.NEXT`, `VX.DONE`. -/

namespace Sys2Proof.Machine

/-- `VX.START` (R162): admitted when no precondition is violated, and else refused with all that are (R14, R194). -/
def execVxStart (len inBase outBase : Nat) (s : State) : Result :=
  if Instr.wellFormed s.params.xlen (.vxStart len inBase outBase) then
    if s.violations ⟨len, inBase, outBase⟩ = [] then .next (s.launched ⟨len, inBase, outBase⟩)
    else .refused (.launch (s.violations ⟨len, inBase, outBase⟩))
  else .refused .operandTooWide

/-- `VX.LOAD` (R163). -/
def execVxLoad (s : State) : Result := s.loadChunk

/-- `VX.STORE` (R165). -/
def execVxStore (s : State) : Result := s.storeChunk

/-- `VX.NEXT` (R166): the only control decision of the block. -/
def execVxNext (s : State) : Result := .next s.advance

/-- `VX.DONE` (R167), whose precondition is `BUSY = 1` and `CUR = LEN`. -/
def execVxDone (s : State) : Result :=
  if s.busy = true ∧ s.cur = s.len then .next s.finished else .refused .runNotFinished

/-- `LANE.EXPM` (R160): the whole lane computation, on every lane. -/
def execLaneExpm (s : State) : Result := .next s.expm

/-- `VX.CHUNK` (R164): all the loads, the lane computation, all the stores, the cursor.  Its precondition is `BUSY = 1`
and `CUR < LEN`. -/
def execVxChunk (s : State) : Result :=
  if s.busy = true ∧ s.cur < s.len then
    andThen s.loadChunk fun s1 => andThen s1.expm.storeChunk fun s2 => .next s2.advance
  else .refused .noChunkLeft

end Sys2Proof.Machine
end

