-- ==== Sys2Proof/Machine/Dispatch.lean ====
section
/-! DEFINITION. The operation map (R69): one arm per operation, each one direct call of its meaning. -/

namespace Sys2Proof.Machine

open Host (Outcome)

def exec (i : Instr) (s : State) : Host.Outcome State Fault Refusal :=
  match i with
  | .vxStart len inBase outBase => Sys2Proof.Machine.execVxStart len inBase outBase s
  | .vxLoad => Sys2Proof.Machine.execVxLoad s
  | .rrBias => Sys2Proof.Machine.execRrBias s
  | .rrUnbias => Sys2Proof.Machine.execRrUnbias s
  | .rrReshi => Sys2Proof.Machine.execRrReshi s
  | .rrReslo => Sys2Proof.Machine.execRrReslo s
  | .srIndex => Sys2Proof.Machine.execSrIndex s
  | .srExpw => Sys2Proof.Machine.execSrExpw s
  | .lutFetch => Sys2Proof.Machine.execLutFetch s
  | .xpPatch => Sys2Proof.Machine.execXpPatch s
  | .peMul => Sys2Proof.Machine.execPeMul s
  | .peComb => Sys2Proof.Machine.execPeComb s
  | .dcCmp => Sys2Proof.Machine.execDcCmp s
  | .dcMask => Sys2Proof.Machine.execDcMask s
  | .vxStore => Sys2Proof.Machine.execVxStore s
  | .vxNext => Sys2Proof.Machine.execVxNext s
  | .vxDone => Sys2Proof.Machine.execVxDone s
  | .srScale => Sys2Proof.Machine.execSrScale s
  | .laneExpm => Sys2Proof.Machine.execLaneExpm s
  | .vxChunk => Sys2Proof.Machine.execVxChunk s

end Sys2Proof.Machine
end

