-- ==== Sys2Proof/Machine/Fetch.lean ====
section
/-! DEFINITION. What the step does around an operation: which operation is presented next, and reset while the instance
is powered.  The block fetches no instruction (R57, R60): a busy instance is at a place of the fixed order of R160, R164
and R166, which the state holds as the stage code of the operation that stands there, and an idle one does nothing until
the host presents `VX.START` (R201; log entry 4). -/

namespace Sys2Proof.Machine

/-- The bytes of the operation presented next: the host's `VX.START` if it presents one, else the stage of a busy
instance, else none. -/
def State.fetch (s : State) : Option (List Byte) :=
  match s.start with
  | some l => some (encode s.params.xlen (.vxStart l.len l.inBase l.outBase))
  | none => if s.busy then some [s.stage.setWidth 8] else none

/-- Whether the word of an output element has been stored in the run so far. -/
def State.isStored (s : State) (i : Nat) : Bool :=
  decide (i < s.cur) || (s.stage == 0x0F#5 && decide (i < s.cur + s.W))

/-- What an invocation computes of the input element `i` of the buffer at `inBase` (R168), the NaNs being those of the
draws from `draw` on. -/
def State.computedWord (s : State) (inBase draw i : Nat) : Word :=
  (Lane.expm s.params.c1 (fun d => drawnNaN (draw + d) i)
    { Lane.zero with x := s.mem.readWord (elementAddr inBase i) }).y

/-- The final value of an output element (R168): the word stored, or the lane computation of its input word. -/
def State.finalWord (s : State) (i : Nat) : Word :=
  if s.isStored i then s.mem.readWord (elementAddr s.outBase i) else s.computedWord s.inBase s.draws i

/-- What a reset that abandons an invocation leaves in its output buffer: of each word, by a free choice, its final value
or what was there at `VX.START` (R210, U14).  The order in which words become visible before `DONE` is open (R217), so the
choice is free for every word.  A word that could not be written is left alone. -/
def State.abandonedWords (s : State) (outBase len draw : Nat) (final untouched : Nat → Word) : List (Nat × Word) :=
  (List.range len).filterMap fun i =>
    if (s.writeStop (elementAddr outBase i)).isNone then
      some (elementAddr outBase i, if Config.finalAtReset draw i then final i else untouched i)
    else none

/-- The words a reset leaves in the output buffer of this instance's run, if it is in one. -/
def State.ownWordsAtReset (s : State) : List (Nat × Word) :=
  if s.busy then
    s.abandonedWords s.outBase s.len s.draws s.finalWord fun i => s.original.readWord (elementAddr s.outBase i)
  else []

/-- The words a reset leaves in the output buffer of an invocation that runs on another instance, whose output buffer the
model leaves as it was until it ends (log entry 16). -/
def State.otherWordsAtReset (s : State) (o : Launch) (draw : Nat) : List (Nat × Word) :=
  s.abandonedWords o.outBase o.len draw (s.computedWord o.inBase draw) fun i => s.mem.readWord (elementAddr o.outBase i)

/-- All the words a reset writes: reset puts EVERY instance into the idle state (R210).  Each invocation has six draws of
its own. -/
def State.wordsAtReset (s : State) : List (Nat × Word) :=
  s.ownWordsAtReset ++ s.others.zipIdx.flatMap fun o => s.otherWordsAtReset o.1 (s.draws + 6 * (o.2 + 1))

/-- Reset of a powered instance (R210): every instance idle, so this one has `BUSY = 0` and `CUR = 0` and no invocation
runs elsewhere, every unspecified register at the value the model names for reset (log entry 6), the runs abandoned without
`DONE`; the hard-wired words, the parameters and what the host grants stay. -/
def State.afterReset (s : State) : State :=
  { s with
    lanes := List.replicate s.W Lane.zero
    len := 0
    inBase := 0
    outBase := 0
    cur := 0
    busy := false
    mem := s.mem.writeWords s.wordsAtReset
    others := []
    start := none
    resetLine := false
    stage := 0x00#5
    draws := s.draws + 6 * (s.others.length + 1) }

/-- Present an operation to the instance.  `VX.START` is presented by the host with its tuple.  Any other operation is
presented by the sequencer of a running instance at a place where that operation can stand: `VX.DONE` at the end of the
run, every other one in a chunk (R164, R166). -/
def State.present (s : State) (bytes : List Byte) : State :=
  match bytes with
  | [] => s
  | code :: operands =>
    let size := operandBytes s.params.xlen
    if code = 0#8 then
      { s with
        start := some
          { len := leValue (operands.take size)
            inBase := leValue ((operands.drop size).take size)
            outBase := leValue ((operands.drop (2 * size)).take size) }
        resetLine := false }
    else
      { s with
        start := none
        resetLine := false
        busy := true
        stage := code.setWidth 5
        len := if code = 0x10#8 then s.cur else if s.cur < s.len then s.len else s.cur + s.W }

end Sys2Proof.Machine
end

