-- ==== Sys2Proof/Machine/Step.lean ====
section
/-! DEFINITION. One step of the block: reset where it is asserted, else the operation presented next, else nothing. -/

namespace Sys2Proof.Machine

/-- One step.  An idle instance with nothing presented stays as it is (R201). -/
def step (s : State) : Host.Outcome State Fault Refusal :=
  if s.resetLine then .next s.afterReset
  else
    match s.fetch with
    | none => .next s
    | some bytes =>
      match decode s.params.xlen bytes with
      | .ok (i, _) => exec i s
      | .error e => .refused (.undecodable e)

/-- The state in which the very next step runs the operation whose bits are `w`, with zeros above the table's `nbits`
bits (log entry 11). -/
def State.withFetchWord (s : State) (nbits w : Nat) : State :=
  s.present (leBytes (longest s.params.xlen) (w % 2 ^ nbits))

end Sys2Proof.Machine
end

