-- ==== Sys2Proof/Machine/HostMoves.lean ====
section
/-! DEFINITION. What can happen between two steps.  The host (10_state.md R24, 20_memory.md R54, 70_reset_and_hazards.md
R210, R212 and R213) presents a tuple with `VX.START`, asserts reset, grants and denies memory, and uses the buffer space;
while an invocation runs it has no move that reads the output buffer or writes either buffer (R54, R213 item 6; log entry
14), or takes one away (R212; log entry 8).  Other instances (60_exceptions.md
R200, 70_reset_and_hazards.md R215) begin and end invocations of their own (log entry 16). -/

namespace Sys2Proof.Machine

/-- Whether a byte address lies in the buffer of `len` elements at `base`. -/
def inBuffer (base len a : Nat) : Bool := decide (base ≤ a) && decide (a < base + 4 * len)

/-- The invocations that run now, on this instance and on the others. -/
def State.running (s : State) : List Launch := if s.busy then s.invocation :: s.others else s.others

/-! ### The host -/

/-- The host presents a tuple with `VX.START` (R68).  How the values arrive is open: here each is reduced to its low
`XLEN` bits, and a tuple presented before the step has taken an earlier one replaces it (DESIGN CHOICE, log entry 21). -/
def State.hostStart (s : State) (l : Launch) : State :=
  { s with
    start := some
      { len := xlenBits s.params l.len
        inBase := xlenBits s.params l.inBase
        outBase := xlenBits s.params l.outBase } }

/-- The host asserts reset. -/
def State.hostReset (s : State) : State := { s with resetLine := true }

/-- The host reads `BUSY`, the only bit of the block it can read (R24, R27). -/
def State.hostBusy (s : State) : Bool := s.busy

/-- The host reads a byte of the buffer space, if it exists and lies in no running invocation's output (R54).  An
invocation runs from the step that admits its tuple on: between `hostStart` and that step the host may still use both
buffers (DESIGN CHOICE, log entry 14). -/
def State.hostRead (s : State) (a : Nat) : Option Byte :=
  if (s.running.any fun o => inBuffer o.outBase o.len a) || decide (2 ^ s.params.xlen ≤ a) then none
  else some (s.mem.readByte a)

/-- The host writes a byte of the buffer space, if it exists and lies in neither buffer of a running invocation (R54).  The
tuple that is presented and not yet admitted keeps it from nothing, as with `hostRead` (DESIGN CHOICE, log entry 14). -/
def State.hostWrite (s : State) (a : Nat) (v : Byte) : Option State :=
  if (s.running.any fun o => inBuffer o.inBase o.len a || inBuffer o.outBase o.len a) ||
      decide (2 ^ s.params.xlen ≤ a) then none
  else some { s with mem := s.mem.writeByte a v }

/-- The host changes what the block may read and write (R52), as when it allocates buffers for a run or frees them (R212).
It may do so between any two steps, and takes no running invocation its input from the readable words or its output from the
writable ones, since it keeps them alive until `DONE` (DESIGN CHOICE for the move and its moment, log entry 8). -/
def State.hostGrants (s : State) (unreadable unwritable : List Region) : Option State :=
  if s.running.any fun o =>
      State.breaks { s with unreadable := unreadable, unwritable := unwritable } o .accessible then none
  else some { s with unreadable := unreadable, unwritable := unwritable }

/-! ### Invocations on other instances -/

/-- What `VX.START` on another, idle instance finds: every invocation that runs here runs elsewhere from there. -/
def State.elsewhere (s : State) : State := { s with busy := false, others := s.running }

/-- An invocation begins on another instance, at any time (R200, R215): if its `VX.START` is admitted there (R162), that is
by the same preconditions, P8 against this instance's run among them.  None begins while reset is asserted. -/
def State.elsewhereStarts (s : State) (l : Launch) : Option State :=
  if s.resetLine then none
  else
    match execVxStart l.len l.inBase l.outBase s.elsewhere with
    | .next _ => some { s with others := l :: s.others }
    | _ => none

/-- An invocation that runs on another instance ends, at any time: its output buffer holds its results (R168, R200), which
the model writes at this moment, and it leaves the list.  Six draws are spent for it (log entry 16). -/
def State.elsewhereEnds (s : State) (o : Launch) : Option State :=
  if s.resetLine || !(s.others.contains o) then none
  else some
    { s with
      mem := s.mem.writeWords
        ((List.range o.len).map fun i => (elementAddr o.outBase i, s.computedWord o.inBase s.draws i))
      others := s.others.erase o
      draws := s.draws + 6 }

end Sys2Proof.Machine
end

