-- ==== Sys2Proof/Safety.lean ====
section
/-! DEFINITION. The terms the statements use: the value of a word, nearest rounding, what a lane computes, which
invocations are admissible, the invariant of the machine. -/

namespace Sys2Proof.Machine

open Binary32 (expf frac sign isNaN isInf isFinite)

/-! ### Values -/

/-- `val(w)` of a finite word, by the rows of R62. -/
def val (w : Word) : ℚ :=
  (if sign w then -1 else 1) *
    (if expf w = 0 then (frac w : ℚ) * (2 : ℚ) ^ (-149 : ℤ)
     else ((2 ^ 23 + frac w : ℕ) : ℚ) * (2 : ℚ) ^ ((expf w : ℤ) - 150))

/-- `w` is the finite binary32 nearest to `v`, ties to the word whose last bit is 0 (R12, `RN`). -/
def IsNearest (v : ℚ) (w : Word) : Prop :=
  isFinite w = true ∧
    ∀ u : Word, isFinite u = true →
      |val w - v| ≤ |val u - v| ∧ (|val w - v| = |val u - v| → val u ≠ val w → w.toNat % 2 = 0)

/-- `RN(v)` of R12 with its overflow to infinity: from half an ulp above the greatest finite value on, infinity. -/
def IsRounded (v : ℚ) (w : Word) : Prop :=
  if |v| < 2 ^ 128 - 2 ^ 103 then IsNearest v w else w = Binary32.inf (decide (v < 0))

/-- `n` is the integer nearest to `q`, a tie going to the even one (R93). -/
def IsRoundEven (q : ℚ) (n : ℤ) : Prop := |q - n| ≤ 1 / 2 ∧ (|q - n| = 1 / 2 → n % 2 = 0)

/-- The order of R12's `flt` on words that are no NaN: infinities below and above every finite value. -/
def Below (a b : Word) : Prop :=
  (isInf a = true ∧ sign a = true ∧ ¬ (isInf b = true ∧ sign b = true)) ∨
  (isInf b = true ∧ sign b = false ∧ ¬ (isInf a = true ∧ sign a = false)) ∨
  (isFinite a = true ∧ isFinite b = true ∧ val a < val b)

/-- A register holds the result of a floating-point operation: that word, or some NaN where the result is a NaN (R172). -/
def Computes (result : Option Word) (w : Word) : Prop :=
  match result with
  | some v => w = v
  | none => isNaN w = true

/-! ### What one lane computes (R160) -/

/-- `F` of a lane whose input is `x`, or `none` where it is a NaN.  The sources of error that R141 lists are here: the table
word (R80), the polynomial, one rounding in each of the two `fma` of `t`, in the `fmul` of `p` and in the last `fma`; the
integer addition of the patch rounds nothing (R127). -/
def laneF (c1 : Config.Coefficient) (x : Word) : Option Word :=
  (Binary32.fma x K_C K_B).bind fun nraw =>
    (Binary32.fsub nraw K_B).bind fun n =>
      (Binary32.fma n K_NHI x).bind fun t1 =>
        (Binary32.fma n K_NLO t1).bind fun t =>
          (Binary32.fmul t (K_C1 c1)).bind fun p =>
            Binary32.fma (tableWord (indexOf nraw) + exponentWord nraw) p
              (tableWord (indexOf nraw) + exponentWord nraw)

/-- `Y` of a lane whose input is `x`, or `none` where it is a NaN: `LANE.EXPM` as a function of `bits(X)` (R160). -/
def laneY (c1 : Config.Coefficient) (x : Word) : Option Word :=
  if Binary32.flt x K_CUT then some 0#32 else laneF c1 x

/-- A lane operation took `s` to `t`: lane by lane the registers are related by `R`, `drawn` draws were spent, `code` is
what the sequencer does next, and NOTHING ELSE of the state changed. -/
def LaneStep (s t : State) (drawn : Nat) (code : StageCode) (R : Lane → Lane → Prop) : Prop :=
  t = { s with lanes := t.lanes, draws := s.draws + drawn, stage := code } ∧
    t.lanes.length = s.lanes.length ∧
    ∀ (i : Nat) (a b : Lane), s.lanes[i]? = some a → t.lanes[i]? = some b → R a b

/-! ### Accuracy (R140) -/

/-- The normal domain: the finite inputs from the cutoff up to zero (R15, R140). -/
def InNormalDomain (x : Word) : Prop := isFinite x = true ∧ val K_CUT ≤ val x ∧ val x ≤ 0

/-- The word `y` is finite and, as a value of `exp` at the input `x`, has a relative error of at most `eps`.  R140 has "a
reference double-precision evaluation", which one is open; here it is the exact real `exp` (DESIGN CHOICE, log entry 17). -/
def WithinBudget (eps : ℚ) (x y : Word) : Prop :=
  isFinite y = true ∧ |(val y : ℝ) - Real.exp (val x)| ≤ (eps : ℝ) * Real.exp (val x)

/-- A block keeps its accuracy budget `EPS_REL` (R8, R140): every input of the normal domain has an output within it.  No
budget is assumed, so nothing in the model relies on this; a claim about accuracy states it or assumes it. -/
def KeepsBudget (p : Config.Params) : Prop :=
  ∀ eps, p.epsRel = some eps → ∀ x, InNormalDomain x → ∃ y, laneY p.c1 x = some y ∧ WithinBudget eps x y

/-! ### Runs -/

/-- `k` steps of the block, stopping at the first fault or refusal. -/
def runSteps (k : Nat) (s : State) : Result := Host.Core.run Sys2Proof.core k s

/-! ### Admissible invocations and the invariant -/

/-- Two buffers of 32-bit elements have no byte in common (R47). -/
def BuffersDisjoint (a n b m : Nat) : Prop := ∀ i j : Nat, i < 4 * n → j < 4 * m → a + i ≠ b + j

/-- Element `i` of the buffer at `base` has none of its four bytes in the region (R58). -/
def OutsideRegion (base i : Nat) (r : Region) : Prop :=
  ∀ b : Nat, b < 4 → ¬ (r.base ≤ base + 4 * i + b ∧ base + 4 * i + b < r.base + r.size)

/-- The block may read element `i` of the buffer at `base`: the four bytes exist, the word is aligned, and the host denies
none of its bytes (R43, R48, R58). -/
def State.MayRead (s : State) (base i : Nat) : Prop :=
  base + 4 * i + 4 ≤ 2 ^ s.params.xlen ∧ (base + 4 * i) % 4 = 0 ∧ ∀ r ∈ s.unreadable, OutsideRegion base i r

/-- The block may write element `i` of the buffer at `base`. -/
def State.MayWrite (s : State) (base i : Nat) : Prop :=
  base + 4 * i + 4 ≤ 2 ^ s.params.xlen ∧ (base + 4 * i) % 4 = 0 ∧ ∀ r ∈ s.unwritable, OutsideRegion base i r

/-- Two invocations that may run at once (R55): neither writes a byte that the other reads or writes. -/
def Apart (l o : Launch) : Prop :=
  BuffersDisjoint l.inBase l.len o.outBase o.len ∧ BuffersDisjoint l.outBase l.len o.inBase o.len ∧
    BuffersDisjoint l.outBase l.len o.outBase o.len

/-- P2 to P6 and P8 of R162 for a tuple, word by word as the table has them. -/
structure State.Admissible (s : State) (l : Launch) : Prop where
  lengthMultipleOfW : s.W ∣ l.len
  basesAligned : l.inBase % 4 = 0 ∧ l.outBase % 4 = 0
  withinSpace : l.inBase + 4 * l.len ≤ 2 ^ s.params.xlen ∧ l.outBase + 4 * l.len ≤ 2 ^ s.params.xlen
  readable : ∀ i, i < l.len → ∀ r ∈ s.unreadable, OutsideRegion l.inBase i r
  writable : ∀ i, i < l.len → ∀ r ∈ s.unwritable, OutsideRegion l.outBase i r
  disjoint : BuffersDisjoint l.inBase l.len l.outBase l.len
  noOther : ∀ o ∈ s.others, Apart l o

/-- The three values of a tuple are `XLEN`-bit integers (R68). -/
def State.Fits (s : State) (l : Launch) : Prop :=
  l.len < 2 ^ s.params.xlen ∧ l.inBase < 2 ^ s.params.xlen ∧ l.outBase < 2 ^ s.params.xlen

/-- The stage codes of the operations of a chunk step: all but `VX.START` and `VX.DONE` (R69). -/
def inChunk (code : StageCode) : Prop := code ≠ 0x00#5 ∧ code ≠ 0x10#5 ∧ code.toNat ≤ 0x13

/-- What holds of a running instance: its invocation was admitted, the cursor is a multiple of `W` no higher than `LEN`
(R25, R166), and it is inside a chunk while elements are left and at `VX.DONE` when none are. -/
structure State.Runs (s : State) : Prop where
  admitted : s.Admissible s.invocation
  cursor : s.W ∣ s.cur
  bound : s.cur ≤ s.len
  place : (inChunk s.stage ∧ s.cur < s.len) ∨ (s.stage = 0x10#5 ∧ s.cur = s.len)

/-- The invariant of the machine. -/
structure State.Inv (s : State) : Prop where
  /-- the buffer space keeps its canonical form -/
  memory : s.mem.wf = true
  /-- and lists no address that does not exist (R41, R48) -/
  space : ∀ c ∈ s.mem, c.1 < 2 ^ s.params.xlen
  /-- there is at least one lane (R8) -/
  lanes : 1 ≤ s.W
  /-- the sequencer registers hold `XLEN`-bit integers (R24) -/
  registers : s.Fits s.invocation ∧ s.cur < 2 ^ s.params.xlen
  /-- so does the tuple the host presents (R68) -/
  tuple : ∀ l, s.start = some l → s.Fits l
  /-- every mask is all zeros or all ones (R66) -/
  masks : ∀ l ∈ s.lanes, l.m = 0x00000000#32 ∨ l.m = 0xFFFFFFFF#32
  /-- every invocation on another instance was admitted there (R162, R200) -/
  elsewhere : ∀ o ∈ s.others, s.Fits o ∧ State.Admissible { s with others := [] } o
  /-- no two of them conflict (R55) -/
  apart : s.others.Pairwise Apart
  /-- and a busy instance is in a run -/
  running : s.busy = true → s.Runs

/-- Two states that differ at most in data: memory contents, now and at the start of the run, lane registers and the number
of draws spent (R173). -/
def SameControl (s t : State) : Prop :=
  t = { s with lanes := t.lanes, mem := t.mem, draws := t.draws, original := t.original } ∧ t.lanes.length = s.lanes.length

/-- The events of the chunk numbered `c` of an invocation, the latest first (R53). -/
def chunkEvents (W : Nat) (l : Launch) (c : Nat) : List Event :=
  [ .stored ((List.range W).map fun i => l.outBase + 4 * (c * W + i)),
    .loaded ((List.range W).map fun i => l.inBase + 4 * (c * W + i)) ]

end Sys2Proof.Machine
end

