-- ==== Sys2Proof/Certificates/Slice0/Obligations.lean ====
section
/-! DEFINITION. The statements about the block, from the rules of the spec.  Each docstring names the rule it follows;
where a clause rests on a choice of the model it says so and names the log entry. -/

open Sys2Proof Sys2Proof.Machine
open Sys2Proof.Machine.Binary32 (expf frac sign isNaN isInf isZero isFinite fma fmul fsub flt inf nanPattern)

/-! ### Encoding -/

/-- Decoding the bytes of any well-formed operation gives the operation back and leaves the bytes after it, at every
width `XLEN`.  The stage codes are R69's; the byte layout of the tuple is the model's (log entry 3). -/
def Obligations.DecodeEncodeRoundTrip : Prop :=
  ∀ (xlen : Nat) (i : Instr) (rest : List Byte),
    i.wellFormed xlen = true → decode xlen (encode xlen i ++ rest) = .ok (i, rest)

/-- Whatever bytes decode to an operation, the operation is well formed and the bytes are its encoding: each operation has
one spelling (log entry 3 for the layout). -/
def Obligations.DecodedBytesAreTheEncoding : Prop :=
  ∀ (xlen : Nat) (bytes : List Byte) (i : Instr) (rest : List Byte),
    decode xlen bytes = .ok (i, rest) → i.wellFormed xlen = true ∧ bytes = encode xlen i ++ rest

/-- One stage code of each family, written out from R69's table, is read as the operation it stands for. That a code comes
as one byte, for `VX.START` followed by its tuple, is the model's layout (log entry 3), at REF's `XLEN` (log entry 1). -/
def Obligations.StageCodeWordsDecode : Prop :=
  decodeTableWord 8 0b00000 = some (.vxStart 0 0 0) ∧ decodeTableWord 8 0b00010 = some .rrBias ∧
  decodeTableWord 8 0b00110 = some .srIndex ∧ decodeTableWord 8 0b01000 = some .lutFetch ∧
  decodeTableWord 8 0b01001 = some .xpPatch ∧ decodeTableWord 8 0b01011 = some .peComb ∧
  decodeTableWord 8 0b01100 = some .dcCmp ∧ decodeTableWord 8 0b10011 = some .vxChunk

/-- The codes `0x14` to `0x1F` are unassigned and name nothing (R69). That a code comes as one byte with zeros above its
five bits, so that any other byte is no stage code, is the model's layout (log entry 3). -/
def Obligations.UnassignedCodesNameNothing : Prop :=
  ∀ (xlen : Nat) (b : Byte) (rest : List Byte),
    (0x14 ≤ b.toNat → b.toNat ≤ 0x1F → decode xlen (b :: rest) = .error (.unassigned b)) ∧
    (0x20 ≤ b.toNat → decode xlen (b :: rest) = .error (.notAStageCode b))

/-! ### The step -/

/-- When the bytes of the operation presented next decode to an operation, the step is that operation at that state, and
nothing around it. That an operation is presented as bytes, and one operation a step, are the model's choices (log
entries 3 and 4): the block itself decodes no instruction word (R7). -/
def Obligations.StepRunsTheDecodedOperation : Prop :=
  ∀ (s : State) (bytes : List Byte) (i : Instr) (rest : List Byte),
    s.resetLine = false → s.fetch = some bytes → decode s.params.xlen bytes = .ok (i, rest) → step s = exec i s

/-- What is presented next: the host's `VX.START` with its tuple, or, at a busy instance, the operation whose stage code
stands at its place (R162, R166; log entry 4 for the place). -/
def Obligations.PresentedOperationRuns : Prop :=
  (∀ (s : State) (l : Launch), s.resetLine = false → s.start = some l → s.Fits l →
    step s = exec (.vxStart l.len l.inBase l.outBase) s) ∧
  (∀ (s : State) (i : Instr), s.resetLine = false → s.start = none → s.busy = true → s.stage = i.stageCode →
    i.stageCode ≠ 0x00#5 → step s = exec i s)

/-- An idle instance simply does nothing until the next `VX.START` (R201). -/
def Obligations.IdleInstanceDoesNothing : Prop :=
  ∀ s : State, s.resetLine = false → s.start = none → s.busy = false → step s = .next s

/-- Every step keeps the invariant, from every state that has it. The invariant speaks of the place, which is the
model's own field (log entry 4). -/
def Obligations.StepKeepsTheInvariant : Prop :=
  ∀ s t : State, s.Inv → step s = .next t → t.Inv

/-- The state right after reset has the invariant. `BUSY = 0` and `CUR = 0` are the spec's (R31); that the unspecified
registers fit their widths and every mask is legal rests on their zeros (log entry 6), and the rest on REF's parameters, the
empty memory and no tuple being presented (log entries 1, 7 and 4). -/
def Obligations.ResetHasTheInvariant : Prop := State.reset.Inv

/-- After reset `BUSY = 0` and `CUR = 0` (R31, R210), and the block executes nothing until a `VX.START`. -/
def Obligations.ResetIsIdle : Prop :=
  State.reset.busy = false ∧ State.reset.cur = 0 ∧ step State.reset = .next State.reset

/-- What can happen between two steps keeps the invariant: the host presents a tuple, asserts reset, writes a byte
outside the buffers of the running invocations (R54, R213 item 6; log entry 14), or changes what is readable and writable
(R52), which it may as long as every running invocation keeps its buffers (R212; log entry 8 for the move), and an invocation begins or ends on another
instance (R200, R215). One begins there exactly when it is admissible, against this instance's run too (R162); when it ends,
its output buffer holds its results and no other byte has changed (R168). That a value too wide for `XLEN` bits is reduced
as it is presented, so that the presented tuple is one (R68), is the model's choice (log entry 21), and so are the list of
the invocations elsewhere, the moment at which their results are stored, and the six draws (log entries 16 and 5). -/
def Obligations.HostMovesKeepTheInvariant : Prop :=
  ∀ s : State, s.Inv →
    (∀ l, (s.hostStart l).Inv) ∧ s.hostReset.Inv ∧
    (∀ (a : Nat) (v : Byte) (t : State), s.hostWrite a v = some t → t.Inv) ∧
    (∀ (r w : List Region) (t : State), s.hostGrants r w = some t → t.Inv) ∧
    (∀ (r w : List Region) (t : State), s.hostGrants r w = some t ↔
      (∀ o, (s.busy = true ∧ o = s.invocation) ∨ o ∈ s.others → ∀ i, i < o.len →
        (∀ g ∈ r, OutsideRegion o.inBase i g) ∧ ∀ g ∈ w, OutsideRegion o.outBase i g) ∧
      t = { s with unreadable := r, unwritable := w }) ∧
    (∀ (l : Launch) (t : State), s.elsewhereStarts l = some t → t.Inv) ∧
    (∀ (o : Launch) (t : State), s.elsewhereEnds o = some t → t.Inv) ∧
    (∀ (l : Launch) (t : State), s.elsewhereStarts l = some t ↔
      s.resetLine = false ∧ s.Fits l ∧ s.Admissible l ∧ (s.busy = true → Apart l s.invocation) ∧
        t = { s with others := l :: s.others }) ∧
    ∀ o : Launch, s.resetLine = false → o ∈ s.others →
      ∃ t, s.elsewhereEnds o = some t ∧
        t = { s with mem := t.mem, others := s.others.erase o, draws := s.draws + 6 } ∧
        (∀ i, i < o.len →
          Computes (laneY s.params.c1 (s.mem.readWord (o.inBase + 4 * i))) (t.mem.readWord (o.outBase + 4 * i))) ∧
        ∀ a, ¬ (o.outBase ≤ a ∧ a < o.outBase + 4 * o.len) → t.mem.readByte a = s.mem.readByte a

/-- The block raises no exception and never blocks: from every state with the invariant a step is always possible, except
that a tuple presented by the host may be refused, and then for a precondition it violates (R190, R191, R216). -/
def Obligations.NeverFaultsNeverStalls : Prop :=
  ∀ s : State, s.Inv →
    (∃ t, step s = .next t) ∨
    (s.resetLine = false ∧ ∃ l, s.start = some l ∧ ∃ p vs, step s = .refused (.launch (p :: vs)))

/-- No step changes the block's parameters, its number of lanes, or what the host has granted (R30, R52); nor the list of
the invocations on other instances, whose form is the model's (log entry 16), except that reset ends them all (R210). -/
def Obligations.StepKeepsTheConfiguration : Prop :=
  ∀ s t : State, step s = .next t →
    t.params = s.params ∧ t.W = s.W ∧ t.unreadable = s.unreadable ∧ t.unwritable = s.unwritable ∧
      t.others = if s.resetLine = true then [] else s.others

/-- `CUR` is 0 after `VX.START`, moves by exactly `W` with a chunk step, never past `LEN`, and never moves otherwise
(R25). The place (stage codes `0x0F` and `0x13`) is the model's own field (log entry 4). -/
def Obligations.CursorMovesByTheLaneWidth : Prop :=
  ∀ s t : State, s.Inv → s.resetLine = false → step s = .next t →
    (s.start ≠ none → t.cur = 0) ∧
    (s.start = none → s.busy = true → (s.stage = 0x0F#5 ∨ s.stage = 0x13#5) →
      t.cur = s.cur + s.W ∧ t.cur ≤ t.len ∧ t.len = s.len) ∧
    (s.start = none → ¬ (s.busy = true ∧ (s.stage = 0x0F#5 ∨ s.stage = 0x13#5)) → t.cur = s.cur)

/-- Whatever a step does, it writes no byte outside the output buffer of the invocation that runs, and none at all when
none runs (R46); a reset, which ends the invocations on other instances too (R210), can leave final words in their output
buffers as well (log entries 13 and 16). -/
def Obligations.StepWritesOnlyTheOutputBuffer : Prop :=
  ∀ s t : State, s.Inv → step s = .next t →
    ∀ a : Nat, ¬ (s.busy = true ∧ s.outBase ≤ a ∧ a < s.outBase + 4 * s.len) →
      (s.resetLine = true → ∀ o ∈ s.others, ¬ (o.outBase ≤ a ∧ a < o.outBase + 4 * o.len)) →
      t.mem.readByte a = s.mem.readByte a

/-- The sequence of operations and of memory addresses is never a function of the data (R173): two states that differ
at most in memory contents, now and at the start of the run, lane registers and draws step alike, to states that differ
at most so, or stop alike. Two of the fields that count as data are the model's own: the draws (log entry 5) and the copy
`original` of the buffer space (log entry 13). -/
def Obligations.ControlIsIndependentOfData : Prop :=
  ∀ s u : State, SameControl s u →
    (∀ t, step s = .next t → ∃ v, step u = .next v ∧ SameControl t v) ∧
    (∀ e, step s = .fault e → step u = .fault e) ∧ (∀ e, step s = .refused e → step u = .refused e)

/-- `BUSY` falls only at `VX.DONE`, with `CUR = LEN` and `DONE` signalled, or by reset (R167, R195). The place and the
event history are the model's own fields (log entries 4 and 12). -/
def Obligations.BusyFallsOnlyWithDone : Prop :=
  ∀ s t : State, step s = .next t → s.busy = true → t.busy = false → s.resetLine = false →
    s.stage = 0x10#5 ∧ s.cur = s.len ∧ t.events = .done :: s.events

/-- Reset puts every instance into the idle state and abandons what runs (R210): this instance is idle with `CUR = 0`, no
invocation runs elsewhere, no `DONE` is signalled, each word of the output buffer of an abandoned run, here or elsewhere,
holds what it held at the start of the run or its final value, and every other byte is as it was. That the choice is free
for every word is log entry 13; which words are stored so far is read from the place (log entry 4), and of a run elsewhere
none is before its end (log entry 16). -/
def Obligations.ResetAbandonsTheRun : Prop :=
  ∀ s : State, s.Inv → s.resetLine = true →
    ∃ t, step s = .next t ∧ t.busy = false ∧ t.cur = 0 ∧ t.resetLine = false ∧ t.others = [] ∧ t.events = s.events ∧
      t.params = s.params ∧ t.W = s.W ∧
      (s.busy = true → ∀ i, i < s.len →
        t.mem.readWord (s.outBase + 4 * i) = s.original.readWord (s.outBase + 4 * i) ∨
        ((i < s.cur ∨ (s.stage = 0x0F#5 ∧ i < s.cur + s.W)) ∧
          t.mem.readWord (s.outBase + 4 * i) = s.mem.readWord (s.outBase + 4 * i)) ∨
        (¬ (i < s.cur ∨ (s.stage = 0x0F#5 ∧ i < s.cur + s.W)) ∧
          Computes (laneY s.params.c1 (s.mem.readWord (s.inBase + 4 * i))) (t.mem.readWord (s.outBase + 4 * i)))) ∧
      (∀ o ∈ s.others, ∀ i, i < o.len →
        t.mem.readWord (o.outBase + 4 * i) = s.mem.readWord (o.outBase + 4 * i) ∨
        Computes (laneY s.params.c1 (s.mem.readWord (o.inBase + 4 * i))) (t.mem.readWord (o.outBase + 4 * i))) ∧
      ∀ a : Nat, ¬ (s.busy = true ∧ s.outBase ≤ a ∧ a < s.outBase + 4 * s.len) →
        (∀ o ∈ s.others, ¬ (o.outBase ≤ a ∧ a < o.outBase + 4 * o.len)) → t.mem.readByte a = s.mem.readByte a

/-! ### Whole invocations -/

/-- The pseudo-operations are their expansions (R73, R115, R160, R164): at the place of its first part, a busy
instance that is left to run gives after 4 steps what `SR.SCALE` gives at once, after 12 steps what `LANE.EXPM` gives,
and after 15 steps what `VX.CHUNK` gives, a stop included. One operation a step is the model's choice (log entry 4).
-/
def Obligations.PseudoOperationsExpand : Prop :=
  ∀ s : State, s.resetLine = false → s.start = none → s.busy = true →
    (s.stage = 0x06#5 → runSteps 4 s = exec .srScale s) ∧
    (s.stage = 0x02#5 → runSteps 12 s = exec .laneExpm s) ∧
    (s.stage = 0x01#5 → s.cur < s.len → runSteps 15 s = exec .vxChunk s)

/-- What an invocation does (R168): presented at an idle instance and admissible, it ends, after the start, `len / W`
chunk steps of 15 operations each, and `VX.DONE`; every output element is the lane computation of the input element
that was there at the start, every other byte of memory is unchanged, and `BUSY = 0`. One operation a step is the
model's choice (log entry 4). -/
def Obligations.InvocationComputesEveryElement : Prop :=
  ∀ (s : State) (l : Launch), s.Inv → s.resetLine = false → s.busy = false → s.start = some l → s.Admissible l →
    ∃ t : State, runSteps (15 * (l.len / s.W) + 2) s = .next t ∧ t.busy = false ∧
      t.cur = l.len ∧ t.invocation = l ∧ t.start = none ∧
      (∀ i, i < l.len →
        Computes (laneY s.params.c1 (s.mem.readWord (l.inBase + 4 * i))) (t.mem.readWord (l.outBase + 4 * i))) ∧
      ∀ a, ¬ (l.outBase ≤ a ∧ a < l.outBase + 4 * l.len) → t.mem.readByte a = s.mem.readByte a

/-- The event history of an invocation (R46, R53): chunk by chunk in ascending cursor order, all the loads of a chunk
before its stores and all its stores before the loads of the next, every input word read exactly once and every output
word written exactly once, and then `DONE`. The history is the model's own field (log entry 12), and that the run takes
`15 * (len / W) + 2` steps, one operation a step, is its choice (log entry 4). -/
def Obligations.InvocationEventHistory : Prop :=
  ∀ (s : State) (l : Launch), s.Inv → s.resetLine = false → s.busy = false → s.start = some l → s.Admissible l →
    ∃ t : State, runSteps (15 * (l.len / s.W) + 2) s = .next t ∧
      t.events = .done :: ((List.range (l.len / s.W)).reverse.flatMap (chunkEvents s.W l) ++ s.events)

/-- The empty invocation (R169): admitted with aligned bases, whatever memory the host denies and whether or not the
bases are equal, it goes from `VX.START` straight to `VX.DONE`, with no load and no store; a misaligned base is still
refused. The place, the event history and the copy `original` of the buffer space are the model's own fields (log
entries 4, 12 and 13), and two steps for the two operations are its choice (log entry 4), as is that the lane registers
keep what they held (R217 leaves it open; log entry 22). -/
def Obligations.EmptyInvocation : Prop :=
  ∀ (s : State) (l : Launch), s.resetLine = false → s.busy = false → s.start = some l → s.Fits l → l.len = 0 →
    (l.inBase % 4 = 0 → l.outBase % 4 = 0 →
      runSteps 2 s = .next
        { s with len := 0, inBase := l.inBase, outBase := l.outBase, cur := 0, busy := false, start := none,
                 original := s.mem, events := .done :: s.events, stage := 0x00#5 }) ∧
    (l.inBase % 4 ≠ 0 ∨ l.outBase % 4 ≠ 0 → step s = .refused (.launch [.basesAligned]))

/-! ### The sequencer's operations -/

/-- `VX.START` at an idle instance with an admissible tuple (R162): the arguments are taken, `CUR = 0`, `BUSY = 1`, and
the block goes on with a chunk while there are elements, else with `VX.DONE`. Nothing else changes; that the lane registers
go into the run as they were is the model's choice (log entry 22). That the host's tuple counts as taken, and the place, are
its own too (log entry 4), and so is the copy of the buffer space (log entry 13). -/
def Obligations.StartAdmitsTheInvocation : Prop :=
  ∀ (s : State) (l : Launch), s.busy = false → s.Fits l → s.Admissible l →
    exec (.vxStart l.len l.inBase l.outBase) s = .next
      { s with len := l.len, inBase := l.inBase, outBase := l.outBase, cur := 0, busy := true, start := none,
               original := s.mem, stage := if l.len = 0 then 0x10#5 else 0x01#5 }

/-- `VX.START` of any other triple of `XLEN`-bit integers is refused, and the refusal carries exactly the preconditions of
R162 that are violated (R14, R191, R194). A tuple is a triple of such integers (R68); that values which are none are
refused too, under a name of their own and with no list, is the model's choice (log entries 19 and 21). -/
def Obligations.StartRefusesExactlyTheViolations : Prop :=
  ∀ (s : State) (l : Launch),
    (¬ s.Fits l → exec (.vxStart l.len l.inBase l.outBase) s = .refused .operandTooWide) ∧
    (s.Fits l → ¬ (s.busy = false ∧ s.Admissible l) →
      ∃ vs, exec (.vxStart l.len l.inBase l.outBase) s = .refused (.launch vs) ∧ vs ≠ [] ∧
        (.idle ∈ vs ↔ s.busy = true) ∧
        (.lengthMultipleOfW ∈ vs ↔ ¬ s.W ∣ l.len) ∧
        (.basesAligned ∈ vs ↔ ¬ (l.inBase % 4 = 0 ∧ l.outBase % 4 = 0)) ∧
        (.withinSpace ∈ vs ↔
          ¬ (l.inBase + 4 * l.len ≤ 2 ^ s.params.xlen ∧ l.outBase + 4 * l.len ≤ 2 ^ s.params.xlen)) ∧
        (.accessible ∈ vs ↔
          ¬ ((∀ i, i < l.len → ∀ r ∈ s.unreadable, OutsideRegion l.inBase i r) ∧
             ∀ i, i < l.len → ∀ r ∈ s.unwritable, OutsideRegion l.outBase i r)) ∧
        (.buffersDisjoint ∈ vs ↔ ¬ BuffersDisjoint l.inBase l.len l.outBase l.len) ∧
        (.noOtherInvocation ∈ vs ↔
          ¬ ∀ o ∈ s.others, Apart l o))

/-- Every invocation whose byte ranges intersect is refused, exact in-place use included (R47), and every one whose
buffer would wrap around the top of the address space (R48). -/
def Obligations.OverlapAndWrapAreRefused : Prop :=
  ∀ (s : State) (len inBase outBase : Nat),
    ((∃ a, inBase ≤ a ∧ a < inBase + 4 * len ∧ outBase ≤ a ∧ a < outBase + 4 * len) →
      ∃ why, exec (.vxStart len inBase outBase) s = .refused why) ∧
    (0 < len → outBase = inBase → ∃ why, exec (.vxStart len inBase outBase) s = .refused why) ∧
    (¬ (inBase + 4 * len ≤ 2 ^ s.params.xlen ∧ outBase + 4 * len ≤ 2 ^ s.params.xlen) →
      ∃ why, exec (.vxStart len inBase outBase) s = .refused why)

/-- `VX.LOAD` (R163), where every element of the chunk may be read: each lane's `X` is the little-endian word at
`IN_BASE + 4*(CUR + i)`, each pattern as it is, and no other register and no byte of memory changes. That the other lane
registers still hold what an earlier chunk or run left is the model's choice (log entry 22). The place and the event history
are its own fields (log entries 4 and 12). -/
def Obligations.LoadFillsEveryLane : Prop :=
  ∀ s : State, (∀ i, i < s.W → s.MayRead s.inBase (s.cur + i)) →
    ∃ t, exec .vxLoad s = .next t ∧
      t = { s with
        lanes := t.lanes
        events := .loaded ((List.range s.W).map fun i => s.inBase + 4 * (s.cur + i)) :: s.events
        stage := 0x02#5 } ∧
      t.lanes.length = s.lanes.length ∧
      ∀ (i : Nat) (a b : Lane), s.lanes[i]? = some a → t.lanes[i]? = some b →
        b = { a with x := s.mem.readWord (s.inBase + 4 * (s.cur + i)) }

/-- `VX.STORE` (R165), where every element of the chunk may be written: the word at `OUT_BASE + 4*(CUR + i)` is lane
`i`'s `Y`, every byte outside the chunk's words is unchanged, and so is every register. That the lane registers outlive the
store, after which R23 calls them discarded, is the model's choice (log entry 22). The place and the event history are its
own fields (log entries 4 and 12). -/
def Obligations.StoreWritesEveryLane : Prop :=
  ∀ s : State, s.mem.wf = true → (∀ i, i < s.W → s.MayWrite s.outBase (s.cur + i)) →
    ∃ t, exec .vxStore s = .next t ∧
      t = { s with
        mem := t.mem
        events := .stored ((List.range s.W).map fun i => s.outBase + 4 * (s.cur + i)) :: s.events
        stage := 0x0F#5 } ∧
      t.mem.wf = true ∧
      (∀ (i : Nat) (l : Lane), s.lanes[i]? = some l → t.mem.readWord (s.outBase + 4 * (s.cur + i)) = l.y) ∧
      ∀ a, ¬ (s.outBase + 4 * s.cur ≤ a ∧ a < s.outBase + 4 * (s.cur + s.W)) →
        t.mem.readByte a = s.mem.readByte a

/-- `VX.LOAD` and `VX.STORE` stop at the first element that cannot be accessed, by name: an address that does not exist,
a misaligned one, a denied one (R43, R48, R58). R45 does not fix the order of the accesses: that the stop is the one of the
lowest such lane, in that order within an element, and that the first is a fault and the others refusals, are the model's
choices (log entry 15). -/
def Obligations.AccessesStopByName : Prop :=
  ∀ (s : State) (i : Nat), i < s.W →
    ((∀ j, j < i → s.MayRead s.inBase (s.cur + j)) →
      (2 ^ s.params.xlen < s.inBase + 4 * (s.cur + i) + 4 →
        exec .vxLoad s = .fault (.addressOutsideSpace (s.inBase + 4 * (s.cur + i)))) ∧
      (s.inBase + 4 * (s.cur + i) + 4 ≤ 2 ^ s.params.xlen → (s.inBase + 4 * (s.cur + i)) % 4 ≠ 0 →
        exec .vxLoad s = .refused (.misaligned (s.inBase + 4 * (s.cur + i)))) ∧
      (s.inBase + 4 * (s.cur + i) + 4 ≤ 2 ^ s.params.xlen → (s.inBase + 4 * (s.cur + i)) % 4 = 0 →
        (∃ r ∈ s.unreadable, ¬ OutsideRegion s.inBase (s.cur + i) r) →
        exec .vxLoad s = .refused (.unreadableWord (s.inBase + 4 * (s.cur + i))))) ∧
    ((∀ j, j < i → s.MayWrite s.outBase (s.cur + j)) →
      (2 ^ s.params.xlen < s.outBase + 4 * (s.cur + i) + 4 →
        exec .vxStore s = .fault (.addressOutsideSpace (s.outBase + 4 * (s.cur + i)))) ∧
      (s.outBase + 4 * (s.cur + i) + 4 ≤ 2 ^ s.params.xlen → (s.outBase + 4 * (s.cur + i)) % 4 ≠ 0 →
        exec .vxStore s = .refused (.misaligned (s.outBase + 4 * (s.cur + i)))) ∧
      (s.outBase + 4 * (s.cur + i) + 4 ≤ 2 ^ s.params.xlen → (s.outBase + 4 * (s.cur + i)) % 4 = 0 →
        (∃ r ∈ s.unwritable, ¬ OutsideRegion s.outBase (s.cur + i) r) →
        exec .vxStore s = .refused (.unwritableWord (s.outBase + 4 * (s.cur + i)))))

/-- The order of the `W` element accesses inside one `VX.STORE` is not fixed and makes no difference (R45, R53): the words
of a chunk stored in any order leave the same memory. -/
def Obligations.StoreOrderIsImmaterial : Prop :=
  ∀ (s : State) (ws : List (Nat × Word)), s.mem.wf = true → ws.Perm s.chunkWords →
    s.mem.writeWords ws = s.mem.writeWords s.chunkWords

/-- `VX.NEXT` (R166) in every state: `CUR` is `CUR + W` as an `XLEN`-bit integer, and the loop test on it decides
between another chunk and `VX.DONE`; nothing else changes. That the lane registers go into the next chunk as they are is
the model's choice (log entry 22). Where the sum needs no more than `XLEN` bits it is `CUR + W`; the reduction where it does
need more is log entry 9. The place is the model's own field (log entry 4). -/
def Obligations.NextAdvancesTheCursor : Prop :=
  ∀ s : State,
    (s.cur + s.W < 2 ^ s.params.xlen →
      exec .vxNext s = .next
        { s with cur := s.cur + s.W, stage := if s.cur + s.W < s.len then 0x01#5 else 0x10#5 }) ∧
    (2 ^ s.params.xlen ≤ s.cur + s.W →
      exec .vxNext s = .next
        { s with cur := (s.cur + s.W) % 2 ^ s.params.xlen,
                 stage := if (s.cur + s.W) % 2 ^ s.params.xlen < s.len then 0x01#5 else 0x10#5 })

/-- `VX.DONE` (R167): at `BUSY = 1` and `CUR = LEN` it ends the run and signals `DONE`, and the sequencer registers
keep their values. That the lane registers keep theirs is the model's choice (R217 leaves it open; log entry 22). That `VX.DONE` and `VX.CHUNK` outside the preconditions that R164 and R167 state are refused, by
name, is the model's choice (log entry 15). The place and the event history are its own fields (log entries 4 and 12).
-/
def Obligations.DoneEndsTheRun : Prop :=
  ∀ s : State,
    (s.busy = true → s.cur = s.len →
      exec .vxDone s = .next { s with busy := false, events := .done :: s.events, stage := 0x00#5 }) ∧
    (¬ (s.busy = true ∧ s.cur = s.len) → exec .vxDone s = .refused .runNotFinished) ∧
    (¬ (s.busy = true ∧ s.cur < s.len) → exec .vxChunk s = .refused .noChunkLeft)

/-- `VX.CHUNK` (R164), where a chunk is left and its elements may be accessed: all the loads, then the lane
computation, then all the stores, then the cursor. Each output word is the lane computation of the input word that was
there before; every byte outside the chunk's output words is unchanged. The place, the draws and the event history are
the model's own fields (log entries 4, 5 and 12). -/
def Obligations.ChunkComputesEveryLane : Prop :=
  ∀ s : State, s.mem.wf = true → s.busy = true → s.cur < s.len → s.cur + s.W < 2 ^ s.params.xlen →
    (∀ i, i < s.W → s.MayRead s.inBase (s.cur + i)) → (∀ i, i < s.W → s.MayWrite s.outBase (s.cur + i)) →
    ∃ t, exec .vxChunk s = .next t ∧
      t = { s with
        lanes := t.lanes
        mem := t.mem
        cur := s.cur + s.W
        draws := s.draws + 6
        events := .stored ((List.range s.W).map fun i => s.outBase + 4 * (s.cur + i)) ::
          .loaded ((List.range s.W).map fun i => s.inBase + 4 * (s.cur + i)) :: s.events
        stage := if s.cur + s.W < s.len then 0x01#5 else 0x10#5 } ∧
      (∀ i, i < s.W →
        Computes (laneY s.params.c1 (s.mem.readWord (s.inBase + 4 * (s.cur + i))))
          (t.mem.readWord (s.outBase + 4 * (s.cur + i)))) ∧
      ∀ a, ¬ (s.outBase + 4 * s.cur ≤ a ∧ a < s.outBase + 4 * (s.cur + s.W)) →
        t.mem.readByte a = s.mem.readByte a

/-! ### The lane operations -/

/-- The Range Reducer's four operations in every state (R91, R92, R95, R96): each is one IEEE operation with one
rounding on the lane's registers and the constant words of R22, writes its one register in every lane, and changes
nothing else; a NaN result is some NaN (R172). The place and the draws are the model's own fields (log entries 4 and
5). -/
def Obligations.RangeReducerOperations : Prop :=
  ∀ s : State,
    (∃ t, exec .rrBias s = .next t ∧ LaneStep s t 1 0x03#5 fun a b =>
      b = { a with nraw := b.nraw } ∧ Computes (fma a.x 0x4538AA3B#32 0x4B400000#32) b.nraw) ∧
    (∃ t, exec .rrUnbias s = .next t ∧ LaneStep s t 1 0x06#5 fun a b =>
      b = { a with n := b.n } ∧ Computes (fsub a.nraw 0x4B400000#32) b.n) ∧
    (∃ t, exec .rrReshi s = .next t ∧ LaneStep s t 1 0x05#5 fun a b =>
      b = { a with t := b.t } ∧ Computes (fma a.n 0xB9B17218#32 a.x) b.t) ∧
    (∃ t, exec .rrReslo s = .next t ∧ LaneStep s t 1 0x0A#5 fun a b =>
      b = { a with t := b.t } ∧ Computes (fma a.n 0x2B82E308#32 a.t) b.t)

/-- The integer operations and the table fetch in every state (R82, R112, R113, R115, R125), with the integer formulas
of their rules: each writes its own registers in every lane and changes nothing else. The place is the model's own
field (log entry 4). -/
def Obligations.ScaleReconstructorOperations : Prop :=
  ∀ s : State,
    (∃ t, exec .srIndex s = .next t ∧ LaneStep s t 0 0x07#5 fun a b =>
      b = { a with k := b.k } ∧ b.k.toNat = a.nraw.toNat % 2048) ∧
    (∃ t, exec .srExpw s = .next t ∧ LaneStep s t 0 0x08#5 fun a b =>
      b = { a with ew := b.ew } ∧ b.ew.toNat = a.nraw.toNat / 2 ^ 11 * 2 ^ 23 % 2 ^ 32) ∧
    (∃ t, exec .lutFetch s = .next t ∧ LaneStep s t 0 0x09#5 fun a b =>
      b = { a with l := b.l } ∧ tableWords[a.k.toNat]? = some b.l) ∧
    (∃ t, exec .xpPatch s = .next t ∧ LaneStep s t 0 0x04#5 fun a b =>
      b = { a with s := b.s } ∧ b.s.toNat = (a.l.toNat + a.ew.toNat) % 2 ^ 32) ∧
    (∃ t, exec .srScale s = .next t ∧ LaneStep s t 0 0x04#5 fun a b =>
      b = { a with k := b.k, ew := b.ew, l := b.l, s := b.s } ∧ b.k.toNat = a.nraw.toNat % 2048 ∧
        b.ew.toNat = a.nraw.toNat / 2 ^ 11 * 2 ^ 23 % 2 ^ 32 ∧ tableWords[b.k.toNat]? = some b.l ∧
        b.s.toNat = (b.l.toNat + b.ew.toNat) % 2 ^ 32)

/-- The Polynomial Evaluator's two operations in every state (R136, R137), with the coefficient the block has, one of
the three words R139 admits. The place and the draws are the model's own fields (log entries 4 and 5). -/
def Obligations.PolynomialOperations : Prop :=
  ∀ s : State,
    (∃ t, exec .peMul s = .next t ∧ LaneStep s t 1 0x0B#5 fun a b =>
      b = { a with p := b.p } ∧
        ((s.params.c1 = .below ∧ Computes (fmul a.t 0x3F7FFFFF#32) b.p) ∨
         (s.params.c1 = .one ∧ Computes (fmul a.t 0x3F800000#32) b.p) ∨
         (s.params.c1 = .above ∧ Computes (fmul a.t 0x3F800001#32) b.p))) ∧
    (∃ t, exec .peComb s = .next t ∧ LaneStep s t 1 0x0C#5 fun a b =>
      b = { a with f := b.f } ∧ Computes (fma a.s a.p a.s) b.f)

/-- The Domain Clamp's two operations in every state (R66, R150, R151): the mask is all ones where `X` is below the
cutoff and all zeros everywhere else, and `Y` is `F` with the mask's bits cleared, bit by bit. The place is the
model's own field (log entry 4). -/
def Obligations.DomainClampOperations : Prop :=
  ∀ s : State,
    (∃ t, exec .dcCmp s = .next t ∧ LaneStep s t 0 0x0D#5 fun a b =>
      b = { a with m := b.m } ∧
        (isNaN a.x = false → Below a.x 0xC2AEAC4F#32 → b.m = 0xFFFFFFFF#32) ∧
        (isNaN a.x = true ∨ ¬ Below a.x 0xC2AEAC4F#32 → b.m = 0x00000000#32)) ∧
    (∃ t, exec .dcMask s = .next t ∧ LaneStep s t 0 0x0E#5 fun a b =>
      b = { a with y := b.y } ∧ ∀ i, b.y.getLsbD i = (a.f.getLsbD i && !a.m.getLsbD i))

/-- `LANE.EXPM` (R160) in every state: the output register of every lane is the lane function of its input register
alone, or some NaN where that is a NaN; `X` and everything outside the lanes stay as they were. The place and the
draws are the model's own fields (log entries 4 and 5). -/
def Obligations.LaneExpmComputesTheLane : Prop :=
  ∀ s : State, ∃ t, exec .laneExpm s = .next t ∧ LaneStep s t 6 0x0E#5 fun a b =>
    b.x = a.x ∧ Computes (laneY s.params.c1 a.x) b.y

/-- No lane affects another (R161): lane `i` after the lane computation is the same whatever the other lanes hold and
however many there are, when lane `i`, the coefficient and the draws are the same. The draws are the model's own field
(log entry 5). -/
def Obligations.LanesAreIndependent : Prop :=
  ∀ (s u t v : State) (i : Nat), s.params.c1 = u.params.c1 → s.draws = u.draws → s.lanes[i]? = u.lanes[i]? →
    exec .laneExpm s = .next t → exec .laneExpm u = .next v → t.lanes[i]? = v.lanes[i]?

/-- No operation but the loads writes `X`. -/
def Obligations.OnlyLoadsWriteTheInput : Prop :=
  ∀ (i : Instr) (s t : State), i ≠ .vxLoad → i ≠ .vxChunk → exec i s = .next t → t.lanes.map Lane.x = s.lanes.map Lane.x

/-- The clamp's comparison may be done at any time in the chunk step (R156): no lane operation writes `X`, and comparing
before or after any operation that does not read the mask gives the same lane. -/
def Obligations.ComparisonMayGoAnywhere : Prop :=
  ∀ (c1 : Config.Coefficient) (nan : Word) (l : Lane),
    ((l.bias nan).x = l.x ∧ (l.unbias nan).x = l.x ∧ (l.resHi nan).x = l.x ∧ (l.resLo nan).x = l.x ∧
      l.index.x = l.x ∧ l.expWord.x = l.x ∧ l.fetch.x = l.x ∧ l.patch.x = l.x ∧ (l.mul c1 nan).x = l.x ∧
      (l.comb nan).x = l.x ∧ l.cmp.x = l.x ∧ l.mask.x = l.x) ∧
    ((l.bias nan).cmp = l.cmp.bias nan ∧ (l.unbias nan).cmp = l.cmp.unbias nan ∧
      (l.resHi nan).cmp = l.cmp.resHi nan ∧ (l.resLo nan).cmp = l.cmp.resLo nan ∧ l.index.cmp = l.cmp.index ∧
      l.expWord.cmp = l.cmp.expWord ∧ l.fetch.cmp = l.cmp.fetch ∧ l.patch.cmp = l.cmp.patch ∧
      (l.mul c1 nan).cmp = l.cmp.mul c1 nan ∧ (l.comb nan).cmp = l.cmp.comb nan)

/-! ### Arithmetic -/

/-- `fma` is correctly rounded (R9, R12): on finite operands it gives the binary32 nearest to the exact value of
`a*b + c`, ties to even, with gradual underflow and overflow to infinity: one rounding, not two. -/
def Obligations.FmaIsCorrectlyRounded : Prop :=
  ∀ a b c : Word, isFinite a = true → isFinite b = true → isFinite c = true →
    ∃ w, fma a b c = some w ∧ IsRounded (val a * val b + val c) w

/-- So are `fmul` and `fsub` (R9, R12). -/
def Obligations.ProductAndDifferenceAreCorrectlyRounded : Prop :=
  ∀ a b : Word, isFinite a = true → isFinite b = true →
    (∃ w, fmul a b = some w ∧ IsRounded (val a * val b) w) ∧ ∃ w, fsub a b = some w ∧ IsRounded (val a - val b) w

/-- An exact result that is a binary32 value other than zero is that value, bit for bit; so multiplying by 1 changes no
word that is no NaN, which is why `P = T` under REF (R136). -/
def Obligations.RepresentableResultsAreExact : Prop :=
  (∀ a b c w : Word, isFinite a = true → isFinite b = true → isFinite c = true → isFinite w = true → val w ≠ 0 →
    val a * val b + val c = val w → fma a b c = some w) ∧
  ∀ t : Word, isNaN t = false → fmul t 0x3F800000#32 = some t

/-- `flt` is the ordered comparison of values (R12): true exactly when neither operand is a NaN and the first is below the
second, infinities included. -/
def Obligations.ComparisonIsByValue : Prop :=
  ∀ a b : Word, flt a b = true ↔ isNaN a = false ∧ isNaN b = false ∧ Below a b

/-- Operands that are no numbers, invalid operations, infinite operands, the sign of an exact zero, and the sign of every
other result, also where it underflows to zero or overflows (R12, R190; IEEE 754 as 93_implementation_defined.md G2 has it,
log entry 18).  The corner cases of R91, R92, R136 and R137 with infinities and zeros are cases of these clauses. -/
def Obligations.SpecialOperands : Prop :=
  (∀ a b c : Word, isNaN a = true ∨ isNaN b = true ∨ isNaN c = true → fma a b c = none) ∧
  (∀ a b : Word, isNaN a = true ∨ isNaN b = true → fmul a b = none ∧ fsub a b = none) ∧
  (∀ a b c : Word, isInf a = true → isZero b = true → fma a b c = none ∧ fma b a c = none ∧ fmul a b = none ∧
    fmul b a = none) ∧
  (∀ a b c : Word, isInf a = true → isNaN b = false → isZero b = false →
    (isFinite c = true ∨ (isInf c = true ∧ sign c = (sign a ^^ sign b)) →
      fma a b c = some (inf (sign a ^^ sign b)) ∧ fma b a c = some (inf (sign a ^^ sign b))) ∧
    (isInf c = true → sign c = !(sign a ^^ sign b) → fma a b c = none ∧ fma b a c = none) ∧
    fmul a b = some (inf (sign a ^^ sign b)) ∧ fmul b a = some (inf (sign a ^^ sign b))) ∧
  (∀ a b c : Word, isFinite a = true → isFinite b = true → isInf c = true → fma a b c = some c) ∧
  (∀ a b : Word, isInf a = true →
    (isFinite b = true → fsub a b = some a ∧ fsub b a = some (inf (!sign a))) ∧
    (isInf b = true → sign a ≠ sign b → fsub a b = some a) ∧
    (isInf b = true → sign a = sign b → fsub a b = none)) ∧
  (∀ a b c : Word, isFinite a = true → isFinite b = true → isFinite c = true →
    (val a * val b + val c = 0 →
      fma a b c = some (if (sign a ^^ sign b) = true ∧ sign c = true then 0x80000000#32 else 0x00000000#32)) ∧
    (val a * val b + val c ≠ 0 → ∀ w, fma a b c = some w → (sign w = true ↔ val a * val b + val c < 0))) ∧
  (∀ a b : Word, isFinite a = true → isFinite b = true →
    (val a * val b = 0 → fmul a b = some (if (sign a ^^ sign b) = true then 0x80000000#32 else 0x00000000#32)) ∧
    (val a * val b ≠ 0 → ∀ w, fmul a b = some w → (sign w = true ↔ val a * val b < 0)) ∧
    (val a - val b = 0 →
      fsub a b = some (if sign a = true ∧ sign b = false then 0x80000000#32 else 0x00000000#32)) ∧
    (val a - val b ≠ 0 → ∀ w, fsub a b = some w → (sign w = true ↔ val a - val b < 0))) ∧
  (∀ a : Word, isFinite a = true → fsub a a = some 0x00000000#32)

/-- The NaN a NaN-valued result takes is free within the NaN set (R172): whatever is drawn is a NaN, and every NaN pattern
can be drawn. -/
def Obligations.DrawnNaNsAreTheNaNSet : Prop :=
  (∀ bits : BitVec 24, isNaN (nanPattern bits) = true) ∧
  ∀ w : Word, isNaN w = true → ∃ bits : BitVec 24, nanPattern bits = w

/-! ### The table and the constants -/

/-- `TABLE[k]` is the binary32 nearest to `2^(k/2048)` (R80), and no other binary32 value is as near: none of the 2048
roundings is a tie. -/
def Obligations.TableWordsAreNearest : Prop :=
  ∀ k : TableIndex, isFinite (tableWord k) = true ∧
    ∀ u : Word, isFinite u = true → val u ≠ val (tableWord k) →
      |(val (tableWord k) : ℝ) - (2 : ℝ) ^ ((k.toNat : ℝ) / 2048)| <
        |(val u : ℝ) - (2 : ℝ) ^ ((k.toNat : ℝ) / 2048)|

/-- Properties of the table (R63, R81): its first, last and middle words, strictly increasing as integers and as values,
sign 0 and exponent field 127 throughout. -/
def Obligations.TableIsIncreasing : Prop :=
  tableWord 0#11 = 0x3F800000#32 ∧ tableWord 2047#11 = 0x3FFFE9D3#32 ∧ tableWord 1024#11 = 0x3FB504F3#32 ∧
  (∀ j k : TableIndex, j.toNat < k.toNat →
    (tableWord j).toNat < (tableWord k).toNat ∧ val (tableWord j) < val (tableWord k)) ∧
  ∀ k : TableIndex, sign (tableWord k) = false ∧ expf (tableWord k) = 127 ∧
    0x3F800000 ≤ (tableWord k).toNat ∧ (tableWord k).toNat < 0x40000000

/-- `K_C` is `12102203/4096`, the binary32 nearest to `2048/ln 2` (R100). -/
def Obligations.ScaleConstantIsNearest : Prop :=
  K_C = 0x4538AA3B#32 ∧ val K_C = 12102203 / 4096 ∧
  ∀ u : Word, isFinite u = true → val u ≠ val K_C →
    |(val K_C : ℝ) - 2048 / Real.log 2| < |(val u : ℝ) - 2048 / Real.log 2|

/-- `K_CUT` is the least binary32 whose exponential is not below the least normal `2^-126` (R155): `exp(x) >= 2^-126`
exactly for the finite `x` not below it, the next binary32 down is already below `-126 ln 2`, and at `X = K_CUT` the block
gives `Nint = -258048`, `e = -126`, `k = 0`, `S = 0x00800000` and `F = Y = 0x00800026`. -/
def Obligations.CutoffIsTheLeastNormalInput : Prop :=
  K_CUT = 0xC2AEAC4F#32 ∧ val K_CUT = -(0x15D589E : ℚ) / 2 ^ 18 ∧
  (∀ u : Word, isFinite u = true → ((2 : ℝ) ^ (-126 : ℤ) ≤ Real.exp (val u) ↔ val K_CUT ≤ val u)) ∧
  (val 0xC2AEAC50#32 : ℝ) < -126 * Real.log 2 ∧
  fma K_CUT K_C K_B = some 0x4B3C1000#32 ∧ (0x4B3C1000 : ℤ) = 0x4B400000 + -258048 ∧
  (-258048 : ℤ) = -126 * 2048 ∧ indexOf 0x4B3C1000#32 = 0#11 ∧
  tableWord 0#11 + exponentWord 0x4B3C1000#32 = 0x00800000#32 ∧
  ∀ c1, laneF c1 K_CUT = some 0x00800026#32 ∧ laneY c1 K_CUT = some 0x00800026#32

/-! ### What the rules say of the values -/

/-- In range (R93): where `-2^22 <= x*Cv < 2^22 - 1/2`, with `Cv = val(K_C)`, the biased sum is `12582912 + Nint` in the
binade of unit spacing, with `Nint` the nearest integer to `x*Cv`, ties to even; its pattern is `0x4B400000 + Nint`; and
`N` is `Nint` exactly, `+0` for 0.  That holds whenever `|x| <= 1419.5`, and in the normal domain
`-258048 <= Nint <= 0`. -/
def Obligations.InRangeIdentities : Prop :=
  val K_C = 2954.639404296875 ∧
  (∀ x : Word, isFinite x = true → |val x| ≤ 1419.5 →
    -2 ^ 22 ≤ val x * val K_C ∧ val x * val K_C < 2 ^ 22 - 1 / 2) ∧
  ∀ x : Word, isFinite x = true → -2 ^ 22 ≤ val x * val K_C → val x * val K_C < 2 ^ 22 - 1 / 2 →
    ∃ (nint : ℤ) (nraw n : Word), fma x K_C K_B = some nraw ∧ fsub nraw K_B = some n ∧
      isFinite nraw = true ∧ 2 ^ 23 ≤ val nraw ∧ val nraw ≤ 2 ^ 24 - 1 ∧
      IsRoundEven (val x * val K_C) nint ∧ val nraw = 12582912 + nint ∧ -2 ^ 22 ≤ nint ∧ nint ≤ 2 ^ 22 - 1 ∧
      (nraw.toNat : ℤ) = 0x4B400000 + nint ∧ isFinite n = true ∧ val n = nint ∧ (nint = 0 → n = 0x00000000#32) ∧
      (val K_CUT ≤ val x → val x ≤ 0 → -258048 ≤ nint ∧ nint ≤ 0)

/-- In range (R114): with `bits(NRAW) = 0x4B400000 + Nint` and `Nint = 2048*e + k`, the index is `k`, the field above it is
`2048 + e`, and the exponent word is `e` modulo 512 at bit 23; in the normal domain `-126 <= e <= 0`. -/
def Obligations.IndexAndQuotientInRange : Prop :=
  ∀ (w : Word) (nint e k : ℤ), (w.toNat : ℤ) = 0x4B400000 + nint → -2 ^ 22 ≤ nint → nint ≤ 2 ^ 22 - 1 →
    nint = 2048 * e + k → 0 ≤ k → k ≤ 2047 →
      -2048 ≤ e ∧ e ≤ 2047 ∧ (w.toNat : ℤ) = 0x4B000000 + 2048 * (2048 + e) + k ∧
      ((indexOf w).toNat : ℤ) = k ∧ k = nint % 2048 ∧ ((w.extractLsb' 11 12).toNat : ℤ) = 2048 + e ∧
      ((w.extractLsb' 11 9).toNat : ℤ) = (2048 + e) % 512 ∧ (2048 + e) % 512 = e % 512 ∧
      ((exponentWord w).toNat : ℤ) = e % 512 * 2 ^ 23 ∧ e % 512 * 2 ^ 23 = e * 2 ^ 23 % 2 ^ 32 ∧
      (-258048 ≤ nint → nint ≤ 0 → -126 ≤ e ∧ e ≤ 0)

/-- The patch leaves the fraction alone (R126): an exponent word has no bit below 23, so nothing is carried into the
exponent field, the upper nine bits add modulo 512, and on a table word and the word of `e` they are `(127 + e) mod 512`. -/
def Obligations.PatchKeepsTheFraction : Prop :=
  (∀ w : Word, (exponentWord w).toNat % 2 ^ 23 = 0) ∧
  (∀ l ew : Word, ew.toNat % 2 ^ 23 = 0 →
    (l + ew).toNat % 2 ^ 23 = l.toNat % 2 ^ 23 ∧
    (l + ew).toNat / 2 ^ 23 = (l.toNat / 2 ^ 23 + ew.toNat / 2 ^ 23) % 512) ∧
  (∀ k : TableIndex, (tableWord k).toNat / 2 ^ 23 = 0x07F) ∧
  ∀ (k : TableIndex) (ew : Word) (e : ℤ), (ew.toNat : ℤ) = e * 2 ^ 23 % 2 ^ 32 →
    (((tableWord k + ew).toNat / 2 ^ 23 : ℕ) : ℤ) = (127 + e) % 512

/-- The patch scales exactly in range (R127): for `-126 <= e <= 127` the patched word is a normal number with sign 0,
exponent field `127 + e` and the table word's fraction, and its value is `2^e` times the table word's, with no rounding. -/
def Obligations.PatchScalesExactly : Prop :=
  ∀ (k : TableIndex) (ew : Word) (e : ℤ), -126 ≤ e → e ≤ 127 → (ew.toNat : ℤ) = e * 2 ^ 23 % 2 ^ 32 →
    sign (tableWord k + ew) = false ∧ ((expf (tableWord k + ew) : ℕ) : ℤ) = 127 + e ∧
      1 ≤ expf (tableWord k + ew) ∧ expf (tableWord k + ew) ≤ 254 ∧
      frac (tableWord k + ew) = frac (tableWord k) ∧
      val (tableWord k + ew) = (2 : ℚ) ^ e * val (tableWord k)

/-- Out of range nothing saturates (R128): for every other `e`, with `q = (127 + e) mod 512`, the patched word is `+inf` or
a NaN at `e = 128`, `+0` or a subnormal at `e = -127`, and has sign 1 for `e` in `129 .. 384` and `-383 .. -128`. -/
def Obligations.PatchOutOfRange : Prop :=
  ∀ (k : TableIndex) (ew : Word) (e : ℤ), (ew.toNat : ℤ) = e * 2 ^ 23 % 2 ^ 32 →
    (e = 128 → (k = 0#11 → tableWord k + ew = 0x7F800000#32) ∧
      (k ≠ 0#11 → isNaN (tableWord k + ew) = true ∧ sign (tableWord k + ew) = false)) ∧
    (129 ≤ e → e ≤ 384 → sign (tableWord k + ew) = true ∧
      ((expf (tableWord k + ew) : ℕ) : ℤ) = (127 + e) % 512 - 256) ∧
    (e = 256 → val (tableWord k + ew) = -val (tableWord k)) ∧
    (e = -127 → (k = 0#11 → tableWord k + ew = 0x00000000#32) ∧
      (k ≠ 0#11 → sign (tableWord k + ew) = false ∧ expf (tableWord k + ew) = 0 ∧
        val (tableWord k + ew) = frac (tableWord k) * (2 : ℚ) ^ (-149 : ℤ) ∧
        val (tableWord k + ew) ≠ (2 : ℚ) ^ (-127 : ℤ) * val (tableWord k))) ∧
    (-383 ≤ e → e ≤ -128 → sign (tableWord k + ew) = true ∧
      ((expf (tableWord k + ew) : ℕ) : ℤ) = (127 + e) % 512 - 256) ∧
    ∀ (ew' : Word) (e' : ℤ), (ew'.toNat : ℤ) = e' * 2 ^ 23 % 2 ^ 32 → e' % 512 = e % 512 →
      tableWord k + ew' = tableWord k + ew

/-- Below the cutoff the output is exactly `+0.0` (R153), `-inf` included, whatever the other lane registers hold. -/
def Obligations.BelowTheCutoffIsZero : Prop :=
  (∀ l : Lane, isNaN l.x = false → Below l.x 0xC2AEAC4F#32 → l.cmp.mask.y = 0x00000000#32) ∧
  Below 0xFF800000#32 0xC2AEAC4F#32 ∧
  ∀ (s t : State) (i : Nat) (a b : Lane), exec .laneExpm s = .next t → s.lanes[i]? = some a → t.lanes[i]? = some b →
    isNaN a.x = false → Below a.x 0xC2AEAC4F#32 → b.y = 0x00000000#32

/-- A NaN passes through the clamp (R152): for a NaN input `M = 0`, `F` is a NaN and `Y` is that NaN.  And so does every
`F` whose `X` is not below the cutoff (R154), bit for bit. -/
def Obligations.NaNPassesThrough : Prop :=
  (∀ (s t : State) (i : Nat) (a b : Lane), exec .laneExpm s = .next t → s.lanes[i]? = some a → t.lanes[i]? = some b →
    isNaN a.x = true → b.m = 0x00000000#32 ∧ isNaN b.f = true ∧ b.y = b.f ∧ isNaN b.y = true) ∧
  ∀ l : Lane, isNaN l.x = true ∨ ¬ Below l.x 0xC2AEAC4F#32 → l.cmp.mask.y = l.f

/-- Under REF every input of magnitude at most `2^-25`, both zeros and every subnormal among them, gives exactly 1.0,
which is within a relative error of `2^-24` of the exact `exp` there (that the exact one is the reference is log entry 17),
and `+inf` gives a NaN under every coefficient (R170). -/
def Obligations.TinyInputsGiveOne : Prop :=
  (∀ x : Word, isFinite x = true → |val x| ≤ (2 : ℚ) ^ (-25 : ℤ) →
    laneY .one x = some 0x3F800000#32 ∧ WithinBudget ((2 : ℚ) ^ (-24 : ℤ)) x 0x3F800000#32) ∧
  ∀ c1, laneY c1 0x7F800000#32 = none

/-! ### Memory -/

/-- A word stored at an address is the word read there, byte order and all (R42), and every word that shares no byte with
it reads as before. -/
def Obligations.WordReadAfterWrite : Prop :=
  ∀ (m : Memory) (a b : Nat) (v : Word), m.wf = true →
    (m.writeWord a v).readWord a = v ∧ (m.writeWord a v).readByte a = v.extractLsb' 0 8 ∧
    (m.writeWord a v).readByte (a + 3) = v.extractLsb' 24 8 ∧
    (b + 4 ≤ a ∨ a + 4 ≤ b → (m.writeWord a v).readWord b = m.readWord b)

/-- Two memories in canonical form that read alike at every address are the same memory. The canonical list of bytes, and
that an address it does not list reads as the byte 0, are the model's choices (log entry 7): the spec gives the buffer
space addresses (R41) and no contents (R51). -/
def Obligations.CanonicalMemoriesAreEqual : Prop :=
  ∀ m n : Memory, m.wf = true → n.wf = true → (∀ a, m.readByte a = n.readByte a) → m = n
end

