-- ==== Sys2Proof/Laws/Decode.lean ====
section
/-! SUPPORT. Numbers as bytes, least significant first. -/

namespace Sys2Proof

@[simp] theorem leBytes_length (n v : Nat) : (leBytes n v).length = n := by
  induction n generalizing v with
  | zero => rfl
  | succ n ih => simp [leBytes, ih]

/-- The bytes of a number give the number back, as far as they reach. -/
theorem leValue_leBytes (n v : Nat) : leValue (leBytes n v) = v % 256 ^ n := by
  induction n generalizing v with
  | zero => simp [leBytes, leValue, Nat.mod_one]
  | succ n ih =>
    simp only [leBytes, leValue, ih, BitVec.toNat_ofNat, Nat.reducePow]
    rw [Nat.pow_succ, Nat.mul_comm (256 ^ n), Nat.mod_mul]

theorem leValue_lt (bs : List Byte) : leValue bs < 256 ^ bs.length := by
  induction bs with
  | nil => simp [leValue]
  | cons b bs ih =>
    have hb := b.isLt
    simp only [leValue, List.length_cons, Nat.pow_succ]
    omega

/-- `XLEN` bits fit the operand's bytes. -/
theorem two_pow_le_operand (xlen : Nat) : 2 ^ xlen ≤ 256 ^ operandBytes xlen := by
  rw [show (256 : Nat) = 2 ^ 8 from rfl, ← Nat.pow_mul]
  exact Nat.pow_le_pow_right (by omega) (by unfold operandBytes; omega)

/-- One operand is read back from its bytes. -/
theorem takeOperand_leBytes (xlen v : Nat) (rest : List Byte) (h : v < 2 ^ xlen) :
    takeOperand xlen (leBytes (operandBytes xlen) v ++ rest) = .ok (v, rest) := by
  have h2 := two_pow_le_operand xlen
  have hv : leValue (leBytes (operandBytes xlen) v) = v := by
    rw [leValue_leBytes]; exact Nat.mod_eq_of_lt (by omega)
  simp [takeOperand, hv, h]

end Sys2Proof
end

