-- ==== Sys2Proof/Laws/Memory.lean ====
section
/-! SUPPORT. The buffer space: what one byte reads as after a write, that every memory operation keeps the canonical
form, and that a word write leaves every byte outside the word alone. -/

namespace Sys2Proof.Machine

/-! ### The canonical form -/

theorem Memory.wf_entry {a : Nat} {v : Byte} {m : Memory} :
    Memory.wf ((a, v) :: m) = true ↔ v ≠ unlistedByte ∧ Memory.above a m = true ∧ m.wf = true := by
  simp [Memory.wf, and_assoc]

theorem Memory.above_trans {a b : Nat} {m : Memory} (h : a < b) (hb : Memory.above b m = true) :
    Memory.above a m = true := by
  cases m with
  | nil => rfl
  | cons c m => simp only [Memory.above, decide_eq_true_eq] at *; omega

theorem Memory.cons_above {a x : Nat} {v : Byte} {m : Memory} (hx : a < x) (hm : Memory.above a m = true) :
    Memory.above a (Memory.cons x v m) = true := by
  unfold Memory.cons
  split
  · exact hm
  · simpa [Memory.above] using hx

theorem Memory.cons_wf {x : Nat} {v : Byte} {m : Memory} (hx : Memory.above x m = true) (hm : m.wf = true) :
    (Memory.cons x v m).wf = true := by
  unfold Memory.cons
  split
  · exact hm
  · exact Memory.wf_entry.2 ⟨‹_›, hx, hm⟩

theorem Memory.writeByte_above {a x : Nat} {v : Byte} {m : Memory} (hx : a < x) (hm : Memory.above a m = true)
    (hw : m.wf = true) : Memory.above a (m.writeByte x v) = true := by
  cases m with
  | nil => exact Memory.cons_above hx rfl
  | cons c m =>
    obtain ⟨b, w⟩ := c
    obtain ⟨-, hbm, -⟩ := Memory.wf_entry.1 hw
    have hb : a < b := by simpa [Memory.above] using hm
    simp only [Memory.writeByte]
    split
    · exact Memory.cons_above hx hm
    · split
      · exact Memory.cons_above hx (Memory.above_trans hb hbm)
      · simpa [Memory.above] using hb

/-- A byte write keeps the canonical form. -/
theorem Memory.writeByte_wf {m : Memory} (x : Nat) (v : Byte) (hw : m.wf = true) : (m.writeByte x v).wf = true := by
  induction m with
  | nil => exact Memory.cons_wf rfl rfl
  | cons c m ih =>
    obtain ⟨a, w⟩ := c
    obtain ⟨hv, ha, hm⟩ := Memory.wf_entry.1 hw
    simp only [Memory.writeByte]
    split
    · exact Memory.cons_wf (by simpa [Memory.above]) hw
    · split
      · subst_vars; exact Memory.cons_wf ha hm
      · exact Memory.wf_entry.2 ⟨hv, Memory.writeByte_above (by omega) ha hm, ih hm⟩

/-- A word write keeps the canonical form. -/
theorem Memory.writeWord_wf {m : Memory} (a : Nat) (v : Word) (hw : m.wf = true) : (m.writeWord a v).wf = true :=
  Memory.writeByte_wf _ _ (Memory.writeByte_wf _ _ (Memory.writeByte_wf _ _ (Memory.writeByte_wf _ _ hw)))

/-- Writing a list of words keeps the canonical form. -/
theorem Memory.writeWords_wf {m : Memory} (ws : List (Nat × Word)) (hw : m.wf = true) : (m.writeWords ws).wf = true := by
  induction ws generalizing m with
  | nil => exact hw
  | cons e ws ih => exact ih (Memory.writeWord_wf e.1 e.2 hw)

/-- The buffer space right after reset is canonical. -/
theorem Memory.reset_wf : State.reset.mem.wf = true := rfl

/-! ### The listed addresses -/

theorem Memory.mem_cons {x : Nat} {v : Byte} {m : Memory} {c : Host.Cell} (h : c ∈ Memory.cons x v m) :
    c = (x, v) ∨ c ∈ m := by
  unfold Memory.cons at h
  split at h
  · exact .inr h
  · exact List.mem_cons.1 h

/-- A byte write lists no address but the ones listed before and its own. -/
theorem Memory.mem_writeByte {m : Memory} {x : Nat} {v : Byte} {c : Host.Cell} (h : c ∈ m.writeByte x v) :
    c = (x, v) ∨ c ∈ m := by
  induction m with
  | nil => simpa [Memory.writeByte] using Memory.mem_cons h
  | cons d m ih =>
    simp only [Memory.writeByte] at h
    split at h
    · exact Memory.mem_cons h
    · split at h
      · exact (Memory.mem_cons h).imp id (List.mem_cons_of_mem _)
      · rcases List.mem_cons.1 h with rfl | h
        · exact .inr (List.mem_cons_self ..)
        · exact (ih h).imp id (List.mem_cons_of_mem _)

/-- A word write lists no address but the ones listed before and the four of the word. -/
theorem Memory.mem_writeWord {m : Memory} {a : Nat} {v : Word} {c : Host.Cell} (h : c ∈ m.writeWord a v) :
    (a ≤ c.1 ∧ c.1 < a + 4) ∨ c ∈ m := by
  rcases Memory.mem_writeByte h with rfl | h
  · left; simp
  rcases Memory.mem_writeByte h with rfl | h
  · left; simp
  rcases Memory.mem_writeByte h with rfl | h
  · left; simp
  rcases Memory.mem_writeByte h with rfl | h
  · left; simp
  · exact .inr h

/-- Writing a list of words lists no address but the ones listed before and those of the words. -/
theorem Memory.mem_writeWords {m : Memory} {ws : List (Nat × Word)} {c : Host.Cell} (h : c ∈ m.writeWords ws) :
    (∃ e ∈ ws, e.1 ≤ c.1 ∧ c.1 < e.1 + 4) ∨ c ∈ m := by
  induction ws generalizing m with
  | nil => exact .inr h
  | cons e ws ih =>
    rcases ih h with ⟨e', he', hc⟩ | h
    · exact .inl ⟨e', List.mem_cons_of_mem _ he', hc⟩
    · rcases Memory.mem_writeWord h with hc | h
      · exact .inl ⟨e, List.mem_cons_self .., hc⟩
      · exact .inr h

/-! ### Reading after writing -/

theorem Memory.readByte_of_above {x : Nat} {m : Memory} (h : Memory.above x m = true) (hw : m.wf = true) :
    m.readByte x = unlistedByte := by
  induction m with
  | nil => rfl
  | cons c m ih =>
    obtain ⟨a, w⟩ := c
    have hx : x < a := by simpa [Memory.above] using h
    obtain ⟨-, ha, hm⟩ := Memory.wf_entry.1 hw
    simp only [Memory.readByte]
    rw [if_neg (by omega)]
    exact ih (Memory.above_trans hx ha) hm

theorem Memory.readByte_cons {x y : Nat} {v : Byte} {m : Memory} (h : Memory.above x m = true) (hw : m.wf = true) :
    (Memory.cons x v m).readByte y = if y = x then v else m.readByte y := by
  unfold Memory.cons
  split
  · split
    · subst_vars; exact Memory.readByte_of_above h hw
    · rfl
  · simp [Memory.readByte]

/-- What a byte reads as after a byte write: the value written at the address written, and what it read as before
everywhere else. -/
theorem Memory.readByte_writeByte {m : Memory} (x y : Nat) (v : Byte) (hw : m.wf = true) :
    (m.writeByte x v).readByte y = if y = x then v else m.readByte y := by
  induction m with
  | nil => exact Memory.readByte_cons rfl rfl
  | cons c m ih =>
    obtain ⟨a, w⟩ := c
    obtain ⟨-, ha, hm⟩ := Memory.wf_entry.1 hw
    simp only [Memory.writeByte]
    split
    · exact Memory.readByte_cons (by simpa [Memory.above]) hw
    · split
      · subst_vars
        rw [Memory.readByte_cons ha hm]
        simp only [Memory.readByte]
        split <;> rfl
      · simp only [Memory.readByte, ih hm]
        by_cases hy : y = a
        · subst hy; rw [if_pos rfl, if_pos rfl, if_neg (by omega)]
        · rw [if_neg hy, if_neg hy]

/-- A word write leaves every byte outside the word's four alone. -/
theorem Memory.readByte_writeWord_outside {m : Memory} {a y : Nat} (v : Word) (hw : m.wf = true)
    (hy : y < a ∨ a + 4 ≤ y) : (m.writeWord a v).readByte y = m.readByte y := by
  unfold Memory.writeWord
  repeat rw [Memory.readByte_writeByte _ _ _ (by repeat first | exact hw | apply Memory.writeByte_wf)]
  repeat rw [if_neg (by omega)]

/-- Writing a list of words leaves every byte outside all of them alone. -/
theorem Memory.readByte_writeWords_outside {m : Memory} {ws : List (Nat × Word)} {y : Nat} (hw : m.wf = true)
    (hy : ∀ e ∈ ws, y < e.1 ∨ e.1 + 4 ≤ y) : (m.writeWords ws).readByte y = m.readByte y := by
  induction ws generalizing m with
  | nil => rfl
  | cons e ws ih =>
    have h1 := ih (Memory.writeWord_wf e.1 e.2 hw) (fun e' he' => hy e' (List.mem_cons_of_mem _ he'))
    exact h1.trans (Memory.readByte_writeWord_outside e.2 hw (hy e (List.mem_cons_self ..)))

end Sys2Proof.Machine
end

