-- ==== Sys2Proof/Laws/State.lean ====
section
/-! SUPPORT. The record updates of the state, field by field: what each named update leaves in each field, true by
definition, so that no later proof unfolds one. -/

namespace Sys2Proof.Machine

/-! ### `State.goto` -/

@[simp] theorem State.goto_params (s : State) (c : StageCode) : (s.goto c).params = s.params := rfl
@[simp] theorem State.goto_lanes (s : State) (c : StageCode) : (s.goto c).lanes = s.lanes := rfl
@[simp] theorem State.goto_len (s : State) (c : StageCode) : (s.goto c).len = s.len := rfl
@[simp] theorem State.goto_inBase (s : State) (c : StageCode) : (s.goto c).inBase = s.inBase := rfl
@[simp] theorem State.goto_outBase (s : State) (c : StageCode) : (s.goto c).outBase = s.outBase := rfl
@[simp] theorem State.goto_cur (s : State) (c : StageCode) : (s.goto c).cur = s.cur := rfl
@[simp] theorem State.goto_busy (s : State) (c : StageCode) : (s.goto c).busy = s.busy := rfl
@[simp] theorem State.goto_mem (s : State) (c : StageCode) : (s.goto c).mem = s.mem := rfl
@[simp] theorem State.goto_unreadable (s : State) (c : StageCode) : (s.goto c).unreadable = s.unreadable := rfl
@[simp] theorem State.goto_unwritable (s : State) (c : StageCode) : (s.goto c).unwritable = s.unwritable := rfl
@[simp] theorem State.goto_others (s : State) (c : StageCode) : (s.goto c).others = s.others := rfl
@[simp] theorem State.goto_start (s : State) (c : StageCode) : (s.goto c).start = s.start := rfl
@[simp] theorem State.goto_resetLine (s : State) (c : StageCode) : (s.goto c).resetLine = s.resetLine := rfl
@[simp] theorem State.goto_stage (s : State) (c : StageCode) : (s.goto c).stage = c := rfl
@[simp] theorem State.goto_draws (s : State) (c : StageCode) : (s.goto c).draws = s.draws := rfl
@[simp] theorem State.goto_original (s : State) (c : StageCode) : (s.goto c).original = s.original := rfl
@[simp] theorem State.goto_events (s : State) (c : StageCode) : (s.goto c).events = s.events := rfl

/-! ### `State.eachLane` -/

@[simp] theorem State.eachLane_params (s : State) (g : Lane → Lane) : (s.eachLane g).params = s.params := rfl
@[simp] theorem State.eachLane_lanes (s : State) (g : Lane → Lane) : (s.eachLane g).lanes = s.lanes.map g := rfl
@[simp] theorem State.eachLane_len (s : State) (g : Lane → Lane) : (s.eachLane g).len = s.len := rfl
@[simp] theorem State.eachLane_inBase (s : State) (g : Lane → Lane) : (s.eachLane g).inBase = s.inBase := rfl
@[simp] theorem State.eachLane_outBase (s : State) (g : Lane → Lane) : (s.eachLane g).outBase = s.outBase := rfl
@[simp] theorem State.eachLane_cur (s : State) (g : Lane → Lane) : (s.eachLane g).cur = s.cur := rfl
@[simp] theorem State.eachLane_busy (s : State) (g : Lane → Lane) : (s.eachLane g).busy = s.busy := rfl
@[simp] theorem State.eachLane_mem (s : State) (g : Lane → Lane) : (s.eachLane g).mem = s.mem := rfl
@[simp] theorem State.eachLane_unreadable (s : State) (g : Lane → Lane) : (s.eachLane g).unreadable = s.unreadable := rfl
@[simp] theorem State.eachLane_unwritable (s : State) (g : Lane → Lane) : (s.eachLane g).unwritable = s.unwritable := rfl
@[simp] theorem State.eachLane_others (s : State) (g : Lane → Lane) : (s.eachLane g).others = s.others := rfl
@[simp] theorem State.eachLane_start (s : State) (g : Lane → Lane) : (s.eachLane g).start = s.start := rfl
@[simp] theorem State.eachLane_resetLine (s : State) (g : Lane → Lane) : (s.eachLane g).resetLine = s.resetLine := rfl
@[simp] theorem State.eachLane_stage (s : State) (g : Lane → Lane) : (s.eachLane g).stage = s.stage := rfl
@[simp] theorem State.eachLane_draws (s : State) (g : Lane → Lane) : (s.eachLane g).draws = s.draws := rfl
@[simp] theorem State.eachLane_original (s : State) (g : Lane → Lane) : (s.eachLane g).original = s.original := rfl
@[simp] theorem State.eachLane_events (s : State) (g : Lane → Lane) : (s.eachLane g).events = s.events := rfl

/-! ### `State.drawLanes` -/

@[simp] theorem State.drawLanes_params (s : State) (g : Word → Lane → Lane) : (s.drawLanes g).params = s.params := rfl
@[simp] theorem State.drawLanes_lanes (s : State) (g : Word → Lane → Lane) : (s.drawLanes g).lanes = s.lanes.mapIdx (fun i l => g (drawnNaN s.draws i) l) := rfl
@[simp] theorem State.drawLanes_len (s : State) (g : Word → Lane → Lane) : (s.drawLanes g).len = s.len := rfl
@[simp] theorem State.drawLanes_inBase (s : State) (g : Word → Lane → Lane) : (s.drawLanes g).inBase = s.inBase := rfl
@[simp] theorem State.drawLanes_outBase (s : State) (g : Word → Lane → Lane) : (s.drawLanes g).outBase = s.outBase := rfl
@[simp] theorem State.drawLanes_cur (s : State) (g : Word → Lane → Lane) : (s.drawLanes g).cur = s.cur := rfl
@[simp] theorem State.drawLanes_busy (s : State) (g : Word → Lane → Lane) : (s.drawLanes g).busy = s.busy := rfl
@[simp] theorem State.drawLanes_mem (s : State) (g : Word → Lane → Lane) : (s.drawLanes g).mem = s.mem := rfl
@[simp] theorem State.drawLanes_unreadable (s : State) (g : Word → Lane → Lane) : (s.drawLanes g).unreadable = s.unreadable := rfl
@[simp] theorem State.drawLanes_unwritable (s : State) (g : Word → Lane → Lane) : (s.drawLanes g).unwritable = s.unwritable := rfl
@[simp] theorem State.drawLanes_others (s : State) (g : Word → Lane → Lane) : (s.drawLanes g).others = s.others := rfl
@[simp] theorem State.drawLanes_start (s : State) (g : Word → Lane → Lane) : (s.drawLanes g).start = s.start := rfl
@[simp] theorem State.drawLanes_resetLine (s : State) (g : Word → Lane → Lane) : (s.drawLanes g).resetLine = s.resetLine := rfl
@[simp] theorem State.drawLanes_stage (s : State) (g : Word → Lane → Lane) : (s.drawLanes g).stage = s.stage := rfl
@[simp] theorem State.drawLanes_draws (s : State) (g : Word → Lane → Lane) : (s.drawLanes g).draws = s.draws + 1 := rfl
@[simp] theorem State.drawLanes_original (s : State) (g : Word → Lane → Lane) : (s.drawLanes g).original = s.original := rfl
@[simp] theorem State.drawLanes_events (s : State) (g : Word → Lane → Lane) : (s.drawLanes g).events = s.events := rfl

/-! ### `State.loaded` -/

@[simp] theorem State.loaded_params (s : State) : s.loaded.params = s.params := rfl
@[simp] theorem State.loaded_lanes (s : State) : s.loaded.lanes = s.lanes.mapIdx (fun i l => { l with x := s.mem.readWord (elementAddr s.inBase (s.cur + i)) }) := rfl
@[simp] theorem State.loaded_len (s : State) : s.loaded.len = s.len := rfl
@[simp] theorem State.loaded_inBase (s : State) : s.loaded.inBase = s.inBase := rfl
@[simp] theorem State.loaded_outBase (s : State) : s.loaded.outBase = s.outBase := rfl
@[simp] theorem State.loaded_cur (s : State) : s.loaded.cur = s.cur := rfl
@[simp] theorem State.loaded_busy (s : State) : s.loaded.busy = s.busy := rfl
@[simp] theorem State.loaded_mem (s : State) : s.loaded.mem = s.mem := rfl
@[simp] theorem State.loaded_unreadable (s : State) : s.loaded.unreadable = s.unreadable := rfl
@[simp] theorem State.loaded_unwritable (s : State) : s.loaded.unwritable = s.unwritable := rfl
@[simp] theorem State.loaded_others (s : State) : s.loaded.others = s.others := rfl
@[simp] theorem State.loaded_start (s : State) : s.loaded.start = s.start := rfl
@[simp] theorem State.loaded_resetLine (s : State) : s.loaded.resetLine = s.resetLine := rfl
@[simp] theorem State.loaded_stage (s : State) : s.loaded.stage = 0x02#5 := rfl
@[simp] theorem State.loaded_draws (s : State) : s.loaded.draws = s.draws := rfl
@[simp] theorem State.loaded_original (s : State) : s.loaded.original = s.original := rfl
@[simp] theorem State.loaded_events (s : State) : s.loaded.events = .loaded (s.chunkAddrs s.inBase) :: s.events := rfl

/-! ### `State.stored` -/

@[simp] theorem State.stored_params (s : State) : s.stored.params = s.params := rfl
@[simp] theorem State.stored_lanes (s : State) : s.stored.lanes = s.lanes := rfl
@[simp] theorem State.stored_len (s : State) : s.stored.len = s.len := rfl
@[simp] theorem State.stored_inBase (s : State) : s.stored.inBase = s.inBase := rfl
@[simp] theorem State.stored_outBase (s : State) : s.stored.outBase = s.outBase := rfl
@[simp] theorem State.stored_cur (s : State) : s.stored.cur = s.cur := rfl
@[simp] theorem State.stored_busy (s : State) : s.stored.busy = s.busy := rfl
@[simp] theorem State.stored_mem (s : State) : s.stored.mem = s.mem.writeWords s.chunkWords := rfl
@[simp] theorem State.stored_unreadable (s : State) : s.stored.unreadable = s.unreadable := rfl
@[simp] theorem State.stored_unwritable (s : State) : s.stored.unwritable = s.unwritable := rfl
@[simp] theorem State.stored_others (s : State) : s.stored.others = s.others := rfl
@[simp] theorem State.stored_start (s : State) : s.stored.start = s.start := rfl
@[simp] theorem State.stored_resetLine (s : State) : s.stored.resetLine = s.resetLine := rfl
@[simp] theorem State.stored_stage (s : State) : s.stored.stage = 0x0F#5 := rfl
@[simp] theorem State.stored_draws (s : State) : s.stored.draws = s.draws := rfl
@[simp] theorem State.stored_original (s : State) : s.stored.original = s.original := rfl
@[simp] theorem State.stored_events (s : State) : s.stored.events = .stored (s.chunkAddrs s.outBase) :: s.events := rfl

/-! ### `State.advance` -/

@[simp] theorem State.advance_params (s : State) : s.advance.params = s.params := rfl
@[simp] theorem State.advance_lanes (s : State) : s.advance.lanes = s.lanes := rfl
@[simp] theorem State.advance_len (s : State) : s.advance.len = s.len := rfl
@[simp] theorem State.advance_inBase (s : State) : s.advance.inBase = s.inBase := rfl
@[simp] theorem State.advance_outBase (s : State) : s.advance.outBase = s.outBase := rfl
@[simp] theorem State.advance_cur (s : State) : s.advance.cur = xlenBits s.params (s.cur + s.W) := rfl
@[simp] theorem State.advance_busy (s : State) : s.advance.busy = s.busy := rfl
@[simp] theorem State.advance_mem (s : State) : s.advance.mem = s.mem := rfl
@[simp] theorem State.advance_unreadable (s : State) : s.advance.unreadable = s.unreadable := rfl
@[simp] theorem State.advance_unwritable (s : State) : s.advance.unwritable = s.unwritable := rfl
@[simp] theorem State.advance_others (s : State) : s.advance.others = s.others := rfl
@[simp] theorem State.advance_start (s : State) : s.advance.start = s.start := rfl
@[simp] theorem State.advance_resetLine (s : State) : s.advance.resetLine = s.resetLine := rfl
@[simp] theorem State.advance_stage (s : State) : s.advance.stage = loopTest (xlenBits s.params (s.cur + s.W)) s.len := rfl
@[simp] theorem State.advance_draws (s : State) : s.advance.draws = s.draws := rfl
@[simp] theorem State.advance_original (s : State) : s.advance.original = s.original := rfl
@[simp] theorem State.advance_events (s : State) : s.advance.events = s.events := rfl

/-! ### `State.launched` -/

@[simp] theorem State.launched_params (s : State) (l : Launch) : (s.launched l).params = s.params := rfl
@[simp] theorem State.launched_lanes (s : State) (l : Launch) : (s.launched l).lanes = s.lanes := rfl
@[simp] theorem State.launched_len (s : State) (l : Launch) : (s.launched l).len = l.len := rfl
@[simp] theorem State.launched_inBase (s : State) (l : Launch) : (s.launched l).inBase = l.inBase := rfl
@[simp] theorem State.launched_outBase (s : State) (l : Launch) : (s.launched l).outBase = l.outBase := rfl
@[simp] theorem State.launched_cur (s : State) (l : Launch) : (s.launched l).cur = 0 := rfl
@[simp] theorem State.launched_busy (s : State) (l : Launch) : (s.launched l).busy = true := rfl
@[simp] theorem State.launched_mem (s : State) (l : Launch) : (s.launched l).mem = s.mem := rfl
@[simp] theorem State.launched_unreadable (s : State) (l : Launch) : (s.launched l).unreadable = s.unreadable := rfl
@[simp] theorem State.launched_unwritable (s : State) (l : Launch) : (s.launched l).unwritable = s.unwritable := rfl
@[simp] theorem State.launched_others (s : State) (l : Launch) : (s.launched l).others = s.others := rfl
@[simp] theorem State.launched_start (s : State) (l : Launch) : (s.launched l).start = none := rfl
@[simp] theorem State.launched_resetLine (s : State) (l : Launch) : (s.launched l).resetLine = s.resetLine := rfl
@[simp] theorem State.launched_stage (s : State) (l : Launch) : (s.launched l).stage = loopTest 0 l.len := rfl
@[simp] theorem State.launched_draws (s : State) (l : Launch) : (s.launched l).draws = s.draws := rfl
@[simp] theorem State.launched_original (s : State) (l : Launch) : (s.launched l).original = s.mem := rfl
@[simp] theorem State.launched_events (s : State) (l : Launch) : (s.launched l).events = s.events := rfl

/-! ### `State.finished` -/

@[simp] theorem State.finished_params (s : State) : s.finished.params = s.params := rfl
@[simp] theorem State.finished_lanes (s : State) : s.finished.lanes = s.lanes := rfl
@[simp] theorem State.finished_len (s : State) : s.finished.len = s.len := rfl
@[simp] theorem State.finished_inBase (s : State) : s.finished.inBase = s.inBase := rfl
@[simp] theorem State.finished_outBase (s : State) : s.finished.outBase = s.outBase := rfl
@[simp] theorem State.finished_cur (s : State) : s.finished.cur = s.cur := rfl
@[simp] theorem State.finished_busy (s : State) : s.finished.busy = false := rfl
@[simp] theorem State.finished_mem (s : State) : s.finished.mem = s.mem := rfl
@[simp] theorem State.finished_unreadable (s : State) : s.finished.unreadable = s.unreadable := rfl
@[simp] theorem State.finished_unwritable (s : State) : s.finished.unwritable = s.unwritable := rfl
@[simp] theorem State.finished_others (s : State) : s.finished.others = s.others := rfl
@[simp] theorem State.finished_start (s : State) : s.finished.start = s.start := rfl
@[simp] theorem State.finished_resetLine (s : State) : s.finished.resetLine = s.resetLine := rfl
@[simp] theorem State.finished_stage (s : State) : s.finished.stage = 0x00#5 := rfl
@[simp] theorem State.finished_draws (s : State) : s.finished.draws = s.draws := rfl
@[simp] theorem State.finished_original (s : State) : s.finished.original = s.original := rfl
@[simp] theorem State.finished_events (s : State) : s.finished.events = .done :: s.events := rfl

/-! ### `State.afterReset` -/

@[simp] theorem State.afterReset_params (s : State) : s.afterReset.params = s.params := rfl
@[simp] theorem State.afterReset_lanes (s : State) : s.afterReset.lanes = List.replicate s.W Lane.zero := rfl
@[simp] theorem State.afterReset_len (s : State) : s.afterReset.len = 0 := rfl
@[simp] theorem State.afterReset_inBase (s : State) : s.afterReset.inBase = 0 := rfl
@[simp] theorem State.afterReset_outBase (s : State) : s.afterReset.outBase = 0 := rfl
@[simp] theorem State.afterReset_cur (s : State) : s.afterReset.cur = 0 := rfl
@[simp] theorem State.afterReset_busy (s : State) : s.afterReset.busy = false := rfl
@[simp] theorem State.afterReset_mem (s : State) : s.afterReset.mem = s.mem.writeWords s.wordsAtReset := rfl
@[simp] theorem State.afterReset_unreadable (s : State) : s.afterReset.unreadable = s.unreadable := rfl
@[simp] theorem State.afterReset_unwritable (s : State) : s.afterReset.unwritable = s.unwritable := rfl
@[simp] theorem State.afterReset_others (s : State) : s.afterReset.others = [] := rfl
@[simp] theorem State.afterReset_start (s : State) : s.afterReset.start = none := rfl
@[simp] theorem State.afterReset_resetLine (s : State) : s.afterReset.resetLine = false := rfl
@[simp] theorem State.afterReset_stage (s : State) : s.afterReset.stage = 0x00#5 := rfl
@[simp] theorem State.afterReset_draws (s : State) : s.afterReset.draws = s.draws + 6 * (s.others.length + 1) := rfl
@[simp] theorem State.afterReset_original (s : State) : s.afterReset.original = s.original := rfl
@[simp] theorem State.afterReset_events (s : State) : s.afterReset.events = s.events := rfl

/-! ### The lane operations

Each is an update of every lane and a move of the sequencer; the lemmas say so once, and the ones above do the rest. -/

@[simp] theorem State.bias_eq (s : State) : s.bias = (s.drawLanes Lane.bias).goto 0x03#5 := rfl
@[simp] theorem State.unbias_eq (s : State) : s.unbias = (s.drawLanes Lane.unbias).goto 0x06#5 := rfl
@[simp] theorem State.index_eq (s : State) : s.index = (s.eachLane Lane.index).goto 0x07#5 := rfl
@[simp] theorem State.expWord_eq (s : State) : s.expWord = (s.eachLane Lane.expWord).goto 0x08#5 := rfl
@[simp] theorem State.fetchTable_eq (s : State) : s.fetchTable = (s.eachLane Lane.fetch).goto 0x09#5 := rfl
@[simp] theorem State.patch_eq (s : State) : s.patch = (s.eachLane Lane.patch).goto 0x04#5 := rfl
@[simp] theorem State.resHi_eq (s : State) : s.resHi = (s.drawLanes Lane.resHi).goto 0x05#5 := rfl
@[simp] theorem State.resLo_eq (s : State) : s.resLo = (s.drawLanes Lane.resLo).goto 0x0A#5 := rfl
@[simp] theorem State.mul_eq (s : State) : s.mul = (s.drawLanes (Lane.mul s.params.c1)).goto 0x0B#5 := rfl
@[simp] theorem State.comb_eq (s : State) : s.comb = (s.drawLanes Lane.comb).goto 0x0C#5 := rfl
@[simp] theorem State.cmp_eq (s : State) : s.cmp = (s.eachLane Lane.cmp).goto 0x0D#5 := rfl
@[simp] theorem State.mask_eq (s : State) : s.mask = (s.eachLane Lane.mask).goto 0x0E#5 := rfl

/-! ### The number of lanes -/

@[simp] theorem State.goto_W (s : State) (c : StageCode) : (s.goto c).W = s.W := rfl

@[simp] theorem State.eachLane_W (s : State) (g : Lane → Lane) : (s.eachLane g).W = s.W := by
  simp [State.W]

@[simp] theorem State.drawLanes_W (s : State) (g : Word → Lane → Lane) : (s.drawLanes g).W = s.W := by
  simp [State.W]

@[simp] theorem State.loaded_W (s : State) : s.loaded.W = s.W := by simp [State.W]

@[simp] theorem State.stored_W (s : State) : s.stored.W = s.W := rfl

@[simp] theorem State.advance_W (s : State) : s.advance.W = s.W := rfl

@[simp] theorem State.launched_W (s : State) (l : Launch) : (s.launched l).W = s.W := rfl

@[simp] theorem State.finished_W (s : State) : s.finished.W = s.W := rfl

@[simp] theorem State.afterReset_W (s : State) : s.afterReset.W = s.W := by simp [State.W]

/-! ### One lane -/

@[simp] theorem Lane.bias_x (nan : Word) (l : Lane) : (Lane.bias nan l).x = l.x := rfl
@[simp] theorem Lane.bias_nraw (nan : Word) (l : Lane) : (Lane.bias nan l).nraw = (Binary32.fma l.x K_C K_B).getD nan := rfl
@[simp] theorem Lane.bias_n (nan : Word) (l : Lane) : (Lane.bias nan l).n = l.n := rfl
@[simp] theorem Lane.bias_k (nan : Word) (l : Lane) : (Lane.bias nan l).k = l.k := rfl
@[simp] theorem Lane.bias_ew (nan : Word) (l : Lane) : (Lane.bias nan l).ew = l.ew := rfl
@[simp] theorem Lane.bias_l (nan : Word) (l : Lane) : (Lane.bias nan l).l = l.l := rfl
@[simp] theorem Lane.bias_s (nan : Word) (l : Lane) : (Lane.bias nan l).s = l.s := rfl
@[simp] theorem Lane.bias_t (nan : Word) (l : Lane) : (Lane.bias nan l).t = l.t := rfl
@[simp] theorem Lane.bias_p (nan : Word) (l : Lane) : (Lane.bias nan l).p = l.p := rfl
@[simp] theorem Lane.bias_f (nan : Word) (l : Lane) : (Lane.bias nan l).f = l.f := rfl
@[simp] theorem Lane.bias_m (nan : Word) (l : Lane) : (Lane.bias nan l).m = l.m := rfl
@[simp] theorem Lane.bias_y (nan : Word) (l : Lane) : (Lane.bias nan l).y = l.y := rfl

@[simp] theorem Lane.unbias_x (nan : Word) (l : Lane) : (Lane.unbias nan l).x = l.x := rfl
@[simp] theorem Lane.unbias_nraw (nan : Word) (l : Lane) : (Lane.unbias nan l).nraw = l.nraw := rfl
@[simp] theorem Lane.unbias_n (nan : Word) (l : Lane) : (Lane.unbias nan l).n = (Binary32.fsub l.nraw K_B).getD nan := rfl
@[simp] theorem Lane.unbias_k (nan : Word) (l : Lane) : (Lane.unbias nan l).k = l.k := rfl
@[simp] theorem Lane.unbias_ew (nan : Word) (l : Lane) : (Lane.unbias nan l).ew = l.ew := rfl
@[simp] theorem Lane.unbias_l (nan : Word) (l : Lane) : (Lane.unbias nan l).l = l.l := rfl
@[simp] theorem Lane.unbias_s (nan : Word) (l : Lane) : (Lane.unbias nan l).s = l.s := rfl
@[simp] theorem Lane.unbias_t (nan : Word) (l : Lane) : (Lane.unbias nan l).t = l.t := rfl
@[simp] theorem Lane.unbias_p (nan : Word) (l : Lane) : (Lane.unbias nan l).p = l.p := rfl
@[simp] theorem Lane.unbias_f (nan : Word) (l : Lane) : (Lane.unbias nan l).f = l.f := rfl
@[simp] theorem Lane.unbias_m (nan : Word) (l : Lane) : (Lane.unbias nan l).m = l.m := rfl
@[simp] theorem Lane.unbias_y (nan : Word) (l : Lane) : (Lane.unbias nan l).y = l.y := rfl

@[simp] theorem Lane.resHi_x (nan : Word) (l : Lane) : (Lane.resHi nan l).x = l.x := rfl
@[simp] theorem Lane.resHi_nraw (nan : Word) (l : Lane) : (Lane.resHi nan l).nraw = l.nraw := rfl
@[simp] theorem Lane.resHi_n (nan : Word) (l : Lane) : (Lane.resHi nan l).n = l.n := rfl
@[simp] theorem Lane.resHi_k (nan : Word) (l : Lane) : (Lane.resHi nan l).k = l.k := rfl
@[simp] theorem Lane.resHi_ew (nan : Word) (l : Lane) : (Lane.resHi nan l).ew = l.ew := rfl
@[simp] theorem Lane.resHi_l (nan : Word) (l : Lane) : (Lane.resHi nan l).l = l.l := rfl
@[simp] theorem Lane.resHi_s (nan : Word) (l : Lane) : (Lane.resHi nan l).s = l.s := rfl
@[simp] theorem Lane.resHi_t (nan : Word) (l : Lane) : (Lane.resHi nan l).t = (Binary32.fma l.n K_NHI l.x).getD nan := rfl
@[simp] theorem Lane.resHi_p (nan : Word) (l : Lane) : (Lane.resHi nan l).p = l.p := rfl
@[simp] theorem Lane.resHi_f (nan : Word) (l : Lane) : (Lane.resHi nan l).f = l.f := rfl
@[simp] theorem Lane.resHi_m (nan : Word) (l : Lane) : (Lane.resHi nan l).m = l.m := rfl
@[simp] theorem Lane.resHi_y (nan : Word) (l : Lane) : (Lane.resHi nan l).y = l.y := rfl

@[simp] theorem Lane.resLo_x (nan : Word) (l : Lane) : (Lane.resLo nan l).x = l.x := rfl
@[simp] theorem Lane.resLo_nraw (nan : Word) (l : Lane) : (Lane.resLo nan l).nraw = l.nraw := rfl
@[simp] theorem Lane.resLo_n (nan : Word) (l : Lane) : (Lane.resLo nan l).n = l.n := rfl
@[simp] theorem Lane.resLo_k (nan : Word) (l : Lane) : (Lane.resLo nan l).k = l.k := rfl
@[simp] theorem Lane.resLo_ew (nan : Word) (l : Lane) : (Lane.resLo nan l).ew = l.ew := rfl
@[simp] theorem Lane.resLo_l (nan : Word) (l : Lane) : (Lane.resLo nan l).l = l.l := rfl
@[simp] theorem Lane.resLo_s (nan : Word) (l : Lane) : (Lane.resLo nan l).s = l.s := rfl
@[simp] theorem Lane.resLo_t (nan : Word) (l : Lane) : (Lane.resLo nan l).t = (Binary32.fma l.n K_NLO l.t).getD nan := rfl
@[simp] theorem Lane.resLo_p (nan : Word) (l : Lane) : (Lane.resLo nan l).p = l.p := rfl
@[simp] theorem Lane.resLo_f (nan : Word) (l : Lane) : (Lane.resLo nan l).f = l.f := rfl
@[simp] theorem Lane.resLo_m (nan : Word) (l : Lane) : (Lane.resLo nan l).m = l.m := rfl
@[simp] theorem Lane.resLo_y (nan : Word) (l : Lane) : (Lane.resLo nan l).y = l.y := rfl

@[simp] theorem Lane.index_x (l : Lane) : l.index.x = l.x := rfl
@[simp] theorem Lane.index_nraw (l : Lane) : l.index.nraw = l.nraw := rfl
@[simp] theorem Lane.index_n (l : Lane) : l.index.n = l.n := rfl
@[simp] theorem Lane.index_k (l : Lane) : l.index.k = indexOf l.nraw := rfl
@[simp] theorem Lane.index_ew (l : Lane) : l.index.ew = l.ew := rfl
@[simp] theorem Lane.index_l (l : Lane) : l.index.l = l.l := rfl
@[simp] theorem Lane.index_s (l : Lane) : l.index.s = l.s := rfl
@[simp] theorem Lane.index_t (l : Lane) : l.index.t = l.t := rfl
@[simp] theorem Lane.index_p (l : Lane) : l.index.p = l.p := rfl
@[simp] theorem Lane.index_f (l : Lane) : l.index.f = l.f := rfl
@[simp] theorem Lane.index_m (l : Lane) : l.index.m = l.m := rfl
@[simp] theorem Lane.index_y (l : Lane) : l.index.y = l.y := rfl

@[simp] theorem Lane.expWord_x (l : Lane) : l.expWord.x = l.x := rfl
@[simp] theorem Lane.expWord_nraw (l : Lane) : l.expWord.nraw = l.nraw := rfl
@[simp] theorem Lane.expWord_n (l : Lane) : l.expWord.n = l.n := rfl
@[simp] theorem Lane.expWord_k (l : Lane) : l.expWord.k = l.k := rfl
@[simp] theorem Lane.expWord_ew (l : Lane) : l.expWord.ew = exponentWord l.nraw := rfl
@[simp] theorem Lane.expWord_l (l : Lane) : l.expWord.l = l.l := rfl
@[simp] theorem Lane.expWord_s (l : Lane) : l.expWord.s = l.s := rfl
@[simp] theorem Lane.expWord_t (l : Lane) : l.expWord.t = l.t := rfl
@[simp] theorem Lane.expWord_p (l : Lane) : l.expWord.p = l.p := rfl
@[simp] theorem Lane.expWord_f (l : Lane) : l.expWord.f = l.f := rfl
@[simp] theorem Lane.expWord_m (l : Lane) : l.expWord.m = l.m := rfl
@[simp] theorem Lane.expWord_y (l : Lane) : l.expWord.y = l.y := rfl

@[simp] theorem Lane.fetch_x (l : Lane) : l.fetch.x = l.x := rfl
@[simp] theorem Lane.fetch_nraw (l : Lane) : l.fetch.nraw = l.nraw := rfl
@[simp] theorem Lane.fetch_n (l : Lane) : l.fetch.n = l.n := rfl
@[simp] theorem Lane.fetch_k (l : Lane) : l.fetch.k = l.k := rfl
@[simp] theorem Lane.fetch_ew (l : Lane) : l.fetch.ew = l.ew := rfl
@[simp] theorem Lane.fetch_l (l : Lane) : l.fetch.l = tableWord l.k := rfl
@[simp] theorem Lane.fetch_s (l : Lane) : l.fetch.s = l.s := rfl
@[simp] theorem Lane.fetch_t (l : Lane) : l.fetch.t = l.t := rfl
@[simp] theorem Lane.fetch_p (l : Lane) : l.fetch.p = l.p := rfl
@[simp] theorem Lane.fetch_f (l : Lane) : l.fetch.f = l.f := rfl
@[simp] theorem Lane.fetch_m (l : Lane) : l.fetch.m = l.m := rfl
@[simp] theorem Lane.fetch_y (l : Lane) : l.fetch.y = l.y := rfl

@[simp] theorem Lane.patch_x (l : Lane) : l.patch.x = l.x := rfl
@[simp] theorem Lane.patch_nraw (l : Lane) : l.patch.nraw = l.nraw := rfl
@[simp] theorem Lane.patch_n (l : Lane) : l.patch.n = l.n := rfl
@[simp] theorem Lane.patch_k (l : Lane) : l.patch.k = l.k := rfl
@[simp] theorem Lane.patch_ew (l : Lane) : l.patch.ew = l.ew := rfl
@[simp] theorem Lane.patch_l (l : Lane) : l.patch.l = l.l := rfl
@[simp] theorem Lane.patch_s (l : Lane) : l.patch.s = l.l + l.ew := rfl
@[simp] theorem Lane.patch_t (l : Lane) : l.patch.t = l.t := rfl
@[simp] theorem Lane.patch_p (l : Lane) : l.patch.p = l.p := rfl
@[simp] theorem Lane.patch_f (l : Lane) : l.patch.f = l.f := rfl
@[simp] theorem Lane.patch_m (l : Lane) : l.patch.m = l.m := rfl
@[simp] theorem Lane.patch_y (l : Lane) : l.patch.y = l.y := rfl

@[simp] theorem Lane.mul_x (c1 : Config.Coefficient) (nan : Word) (l : Lane) : (Lane.mul c1 nan l).x = l.x := rfl
@[simp] theorem Lane.mul_nraw (c1 : Config.Coefficient) (nan : Word) (l : Lane) : (Lane.mul c1 nan l).nraw = l.nraw := rfl
@[simp] theorem Lane.mul_n (c1 : Config.Coefficient) (nan : Word) (l : Lane) : (Lane.mul c1 nan l).n = l.n := rfl
@[simp] theorem Lane.mul_k (c1 : Config.Coefficient) (nan : Word) (l : Lane) : (Lane.mul c1 nan l).k = l.k := rfl
@[simp] theorem Lane.mul_ew (c1 : Config.Coefficient) (nan : Word) (l : Lane) : (Lane.mul c1 nan l).ew = l.ew := rfl
@[simp] theorem Lane.mul_l (c1 : Config.Coefficient) (nan : Word) (l : Lane) : (Lane.mul c1 nan l).l = l.l := rfl
@[simp] theorem Lane.mul_s (c1 : Config.Coefficient) (nan : Word) (l : Lane) : (Lane.mul c1 nan l).s = l.s := rfl
@[simp] theorem Lane.mul_t (c1 : Config.Coefficient) (nan : Word) (l : Lane) : (Lane.mul c1 nan l).t = l.t := rfl
@[simp] theorem Lane.mul_p (c1 : Config.Coefficient) (nan : Word) (l : Lane) : (Lane.mul c1 nan l).p = (Binary32.fmul l.t (K_C1 c1)).getD nan := rfl
@[simp] theorem Lane.mul_f (c1 : Config.Coefficient) (nan : Word) (l : Lane) : (Lane.mul c1 nan l).f = l.f := rfl
@[simp] theorem Lane.mul_m (c1 : Config.Coefficient) (nan : Word) (l : Lane) : (Lane.mul c1 nan l).m = l.m := rfl
@[simp] theorem Lane.mul_y (c1 : Config.Coefficient) (nan : Word) (l : Lane) : (Lane.mul c1 nan l).y = l.y := rfl

@[simp] theorem Lane.comb_x (nan : Word) (l : Lane) : (Lane.comb nan l).x = l.x := rfl
@[simp] theorem Lane.comb_nraw (nan : Word) (l : Lane) : (Lane.comb nan l).nraw = l.nraw := rfl
@[simp] theorem Lane.comb_n (nan : Word) (l : Lane) : (Lane.comb nan l).n = l.n := rfl
@[simp] theorem Lane.comb_k (nan : Word) (l : Lane) : (Lane.comb nan l).k = l.k := rfl
@[simp] theorem Lane.comb_ew (nan : Word) (l : Lane) : (Lane.comb nan l).ew = l.ew := rfl
@[simp] theorem Lane.comb_l (nan : Word) (l : Lane) : (Lane.comb nan l).l = l.l := rfl
@[simp] theorem Lane.comb_s (nan : Word) (l : Lane) : (Lane.comb nan l).s = l.s := rfl
@[simp] theorem Lane.comb_t (nan : Word) (l : Lane) : (Lane.comb nan l).t = l.t := rfl
@[simp] theorem Lane.comb_p (nan : Word) (l : Lane) : (Lane.comb nan l).p = l.p := rfl
@[simp] theorem Lane.comb_f (nan : Word) (l : Lane) : (Lane.comb nan l).f = (Binary32.fma l.s l.p l.s).getD nan := rfl
@[simp] theorem Lane.comb_m (nan : Word) (l : Lane) : (Lane.comb nan l).m = l.m := rfl
@[simp] theorem Lane.comb_y (nan : Word) (l : Lane) : (Lane.comb nan l).y = l.y := rfl

@[simp] theorem Lane.cmp_x (l : Lane) : l.cmp.x = l.x := rfl
@[simp] theorem Lane.cmp_nraw (l : Lane) : l.cmp.nraw = l.nraw := rfl
@[simp] theorem Lane.cmp_n (l : Lane) : l.cmp.n = l.n := rfl
@[simp] theorem Lane.cmp_k (l : Lane) : l.cmp.k = l.k := rfl
@[simp] theorem Lane.cmp_ew (l : Lane) : l.cmp.ew = l.ew := rfl
@[simp] theorem Lane.cmp_l (l : Lane) : l.cmp.l = l.l := rfl
@[simp] theorem Lane.cmp_s (l : Lane) : l.cmp.s = l.s := rfl
@[simp] theorem Lane.cmp_t (l : Lane) : l.cmp.t = l.t := rfl
@[simp] theorem Lane.cmp_p (l : Lane) : l.cmp.p = l.p := rfl
@[simp] theorem Lane.cmp_f (l : Lane) : l.cmp.f = l.f := rfl
@[simp] theorem Lane.cmp_m (l : Lane) : l.cmp.m = maskOf (Binary32.flt l.x K_CUT) := rfl
@[simp] theorem Lane.cmp_y (l : Lane) : l.cmp.y = l.y := rfl

@[simp] theorem Lane.mask_x (l : Lane) : l.mask.x = l.x := rfl
@[simp] theorem Lane.mask_nraw (l : Lane) : l.mask.nraw = l.nraw := rfl
@[simp] theorem Lane.mask_n (l : Lane) : l.mask.n = l.n := rfl
@[simp] theorem Lane.mask_k (l : Lane) : l.mask.k = l.k := rfl
@[simp] theorem Lane.mask_ew (l : Lane) : l.mask.ew = l.ew := rfl
@[simp] theorem Lane.mask_l (l : Lane) : l.mask.l = l.l := rfl
@[simp] theorem Lane.mask_s (l : Lane) : l.mask.s = l.s := rfl
@[simp] theorem Lane.mask_t (l : Lane) : l.mask.t = l.t := rfl
@[simp] theorem Lane.mask_p (l : Lane) : l.mask.p = l.p := rfl
@[simp] theorem Lane.mask_f (l : Lane) : l.mask.f = l.f := rfl
@[simp] theorem Lane.mask_m (l : Lane) : l.mask.m = l.m := rfl
@[simp] theorem Lane.mask_y (l : Lane) : l.mask.y = clear l.f l.m := rfl

/-! ### `State.hostStart` -/

@[simp] theorem State.hostStart_params (s : State) (l : Launch) : (s.hostStart l).params = s.params := rfl
@[simp] theorem State.hostStart_lanes (s : State) (l : Launch) : (s.hostStart l).lanes = s.lanes := rfl
@[simp] theorem State.hostStart_len (s : State) (l : Launch) : (s.hostStart l).len = s.len := rfl
@[simp] theorem State.hostStart_inBase (s : State) (l : Launch) : (s.hostStart l).inBase = s.inBase := rfl
@[simp] theorem State.hostStart_outBase (s : State) (l : Launch) : (s.hostStart l).outBase = s.outBase := rfl
@[simp] theorem State.hostStart_cur (s : State) (l : Launch) : (s.hostStart l).cur = s.cur := rfl
@[simp] theorem State.hostStart_busy (s : State) (l : Launch) : (s.hostStart l).busy = s.busy := rfl
@[simp] theorem State.hostStart_mem (s : State) (l : Launch) : (s.hostStart l).mem = s.mem := rfl
@[simp] theorem State.hostStart_unreadable (s : State) (l : Launch) : (s.hostStart l).unreadable = s.unreadable := rfl
@[simp] theorem State.hostStart_unwritable (s : State) (l : Launch) : (s.hostStart l).unwritable = s.unwritable := rfl
@[simp] theorem State.hostStart_others (s : State) (l : Launch) : (s.hostStart l).others = s.others := rfl
@[simp] theorem State.hostStart_start (s : State) (l : Launch) : (s.hostStart l).start = some ⟨xlenBits s.params l.len, xlenBits s.params l.inBase, xlenBits s.params l.outBase⟩ := rfl
@[simp] theorem State.hostStart_resetLine (s : State) (l : Launch) : (s.hostStart l).resetLine = s.resetLine := rfl
@[simp] theorem State.hostStart_stage (s : State) (l : Launch) : (s.hostStart l).stage = s.stage := rfl
@[simp] theorem State.hostStart_draws (s : State) (l : Launch) : (s.hostStart l).draws = s.draws := rfl
@[simp] theorem State.hostStart_original (s : State) (l : Launch) : (s.hostStart l).original = s.original := rfl
@[simp] theorem State.hostStart_events (s : State) (l : Launch) : (s.hostStart l).events = s.events := rfl

/-! ### `State.hostReset` -/

@[simp] theorem State.hostReset_params (s : State) : s.hostReset.params = s.params := rfl
@[simp] theorem State.hostReset_lanes (s : State) : s.hostReset.lanes = s.lanes := rfl
@[simp] theorem State.hostReset_len (s : State) : s.hostReset.len = s.len := rfl
@[simp] theorem State.hostReset_inBase (s : State) : s.hostReset.inBase = s.inBase := rfl
@[simp] theorem State.hostReset_outBase (s : State) : s.hostReset.outBase = s.outBase := rfl
@[simp] theorem State.hostReset_cur (s : State) : s.hostReset.cur = s.cur := rfl
@[simp] theorem State.hostReset_busy (s : State) : s.hostReset.busy = s.busy := rfl
@[simp] theorem State.hostReset_mem (s : State) : s.hostReset.mem = s.mem := rfl
@[simp] theorem State.hostReset_unreadable (s : State) : s.hostReset.unreadable = s.unreadable := rfl
@[simp] theorem State.hostReset_unwritable (s : State) : s.hostReset.unwritable = s.unwritable := rfl
@[simp] theorem State.hostReset_others (s : State) : s.hostReset.others = s.others := rfl
@[simp] theorem State.hostReset_start (s : State) : s.hostReset.start = s.start := rfl
@[simp] theorem State.hostReset_resetLine (s : State) : s.hostReset.resetLine = true := rfl
@[simp] theorem State.hostReset_stage (s : State) : s.hostReset.stage = s.stage := rfl
@[simp] theorem State.hostReset_draws (s : State) : s.hostReset.draws = s.draws := rfl
@[simp] theorem State.hostReset_original (s : State) : s.hostReset.original = s.original := rfl
@[simp] theorem State.hostReset_events (s : State) : s.hostReset.events = s.events := rfl

/-! ### `State.elsewhere` -/

@[simp] theorem State.elsewhere_params (s : State) : s.elsewhere.params = s.params := rfl
@[simp] theorem State.elsewhere_lanes (s : State) : s.elsewhere.lanes = s.lanes := rfl
@[simp] theorem State.elsewhere_len (s : State) : s.elsewhere.len = s.len := rfl
@[simp] theorem State.elsewhere_inBase (s : State) : s.elsewhere.inBase = s.inBase := rfl
@[simp] theorem State.elsewhere_outBase (s : State) : s.elsewhere.outBase = s.outBase := rfl
@[simp] theorem State.elsewhere_cur (s : State) : s.elsewhere.cur = s.cur := rfl
@[simp] theorem State.elsewhere_busy (s : State) : s.elsewhere.busy = false := rfl
@[simp] theorem State.elsewhere_mem (s : State) : s.elsewhere.mem = s.mem := rfl
@[simp] theorem State.elsewhere_unreadable (s : State) : s.elsewhere.unreadable = s.unreadable := rfl
@[simp] theorem State.elsewhere_unwritable (s : State) : s.elsewhere.unwritable = s.unwritable := rfl
@[simp] theorem State.elsewhere_others (s : State) : s.elsewhere.others = s.running := rfl
@[simp] theorem State.elsewhere_start (s : State) : s.elsewhere.start = s.start := rfl
@[simp] theorem State.elsewhere_resetLine (s : State) : s.elsewhere.resetLine = s.resetLine := rfl
@[simp] theorem State.elsewhere_stage (s : State) : s.elsewhere.stage = s.stage := rfl
@[simp] theorem State.elsewhere_draws (s : State) : s.elsewhere.draws = s.draws := rfl
@[simp] theorem State.elsewhere_original (s : State) : s.elsewhere.original = s.original := rfl
@[simp] theorem State.elsewhere_events (s : State) : s.elsewhere.events = s.events := rfl
@[simp] theorem State.elsewhere_W (s : State) : s.elsewhere.W = s.W := rfl

end Sys2Proof.Machine
end

