-- ==== Sys2Proof/Laws/Ops.lean ====
section
/-! SUPPORT. Each shared operation in one lemma: what it can answer and when.  Later proofs cite these and unfold
nothing. -/

namespace Sys2Proof.Machine

/-! ### Sequencing -/

theorem andThen_eq_next {r : Result} {g : State → Result} {t : State} :
    andThen r g = .next t ↔ ∃ u, r = .next u ∧ g u = .next t := by
  cases r <;> simp [andThen]

@[simp] theorem andThen_next (s : State) (g : State → Result) : andThen (.next s) g = g s := rfl

/-! ### The addresses of a chunk -/

theorem State.mem_chunkAddrs {s : State} {base a : Nat} :
    a ∈ s.chunkAddrs base ↔ ∃ i, i < s.W ∧ a = base + 4 * (s.cur + i) := by
  simp [State.chunkAddrs, elementAddr, eq_comm]

theorem State.mem_chunkWords {s : State} {e : Nat × Word} :
    e ∈ s.chunkWords ↔ ∃ (i : Nat) (l : Lane), s.lanes[i]? = some l ∧ e = (s.outBase + 4 * (s.cur + i), l.y) := by
  simp only [State.chunkWords, elementAddr, List.mem_mapIdx, List.getElem?_eq_some_iff]
  constructor
  · rintro ⟨i, h, rfl⟩; exact ⟨i, _, ⟨h, rfl⟩, rfl⟩
  · rintro ⟨i, l, ⟨h, rfl⟩, rfl⟩; exact ⟨i, h, rfl⟩

/-! ### Access checks -/

/-- Two ranges meet exactly when they have an address in common. -/
theorem rangesMeet_iff {a n b m : Nat} :
    rangesMeet a n b m = true ↔ ∃ x, a ≤ x ∧ x < a + n ∧ b ≤ x ∧ x < b + m := by
  simp only [rangesMeet, decide_eq_true_eq]
  constructor
  · intro h; exact ⟨max a b, by omega, by omega, by omega, by omega⟩
  · rintro ⟨x, h1, h2, h3, h4⟩; omega

theorem meetsAny_eq_false {regions : List Region} {a n : Nat} :
    meetsAny regions a n = false ↔
      ∀ r ∈ regions, ∀ x, a ≤ x → x < a + n → ¬ (r.base ≤ x ∧ x < r.base + r.size) := by
  rw [← Bool.not_eq_true, meetsAny, List.any_eq_true]
  simp only [rangesMeet_iff, not_exists, not_and]

/-- The block may read an element: the address exists, is a multiple of 4, and no byte of it is denied. -/
theorem State.readStop_eq_none {s : State} {a : Nat} :
    s.readStop a = none ↔ a + 4 ≤ 2 ^ s.params.xlen ∧ a % 4 = 0 ∧ meetsAny s.unreadable a 4 = false := by
  unfold State.readStop
  split
  · simp; omega
  · split
    · simp; omega
    · split <;> simp_all

/-- The block may write an element: the address exists, is a multiple of 4, and no byte of it is denied. -/
theorem State.writeStop_eq_none {s : State} {a : Nat} :
    s.writeStop a = none ↔ a + 4 ≤ 2 ^ s.params.xlen ∧ a % 4 = 0 ∧ meetsAny s.unwritable a 4 = false := by
  unfold State.writeStop
  split
  · simp; omega
  · split
    · simp; omega
    · split <;> simp_all

theorem State.readStop_not_next {s : State} {a : Nat} {r : Result} (h : s.readStop a = some r) (t : State) :
    r ≠ .next t := by
  unfold State.readStop at h
  split at h
  · simp_all; rw [← h]; simp
  · split at h
    · simp_all; rw [← h]; simp
    · split at h
      · simp_all; rw [← h]; simp
      · simp at h

theorem State.writeStop_not_next {s : State} {a : Nat} {r : Result} (h : s.writeStop a = some r) (t : State) :
    r ≠ .next t := by
  unfold State.writeStop at h
  split at h
  · simp_all; rw [← h]; simp
  · split at h
    · simp_all; rw [← h]; simp
    · split at h
      · simp_all; rw [← h]; simp
      · simp at h

/-! ### Loads and stores of a chunk -/

/-- `VX.LOAD` answers a next state exactly when every element of the chunk may be read, and then it is `s.loaded`. -/
theorem State.loadChunk_eq_next {s t : State} :
    s.loadChunk = .next t ↔ t = s.loaded ∧ ∀ i, i < s.W → s.readStop (s.inBase + 4 * (s.cur + i)) = none := by
  unfold State.loadChunk
  split
  · rename_i stop h
    obtain ⟨a, ha, hs⟩ := List.exists_of_findSome?_eq_some h
    obtain ⟨i, hi, rfl⟩ := State.mem_chunkAddrs.1 ha
    constructor
    · intro h'; exact absurd h' (State.readStop_not_next hs t)
    · rintro ⟨-, h'⟩; rw [h' i hi] at hs; cases hs
  · rename_i h
    rw [List.findSome?_eq_none_iff] at h
    constructor
    · intro h'
      cases h'
      exact ⟨rfl, fun i hi => h _ (State.mem_chunkAddrs.2 ⟨i, hi, rfl⟩)⟩
    · rintro ⟨rfl, -⟩; rfl

/-- `VX.STORE` answers a next state exactly when every element of the chunk may be written, and then it is
`s.stored`. -/
theorem State.storeChunk_eq_next {s t : State} :
    s.storeChunk = .next t ↔ t = s.stored ∧ ∀ i, i < s.W → s.writeStop (s.outBase + 4 * (s.cur + i)) = none := by
  unfold State.storeChunk
  split
  · rename_i stop h
    obtain ⟨a, ha, hs⟩ := List.exists_of_findSome?_eq_some h
    obtain ⟨i, hi, rfl⟩ := State.mem_chunkAddrs.1 ha
    constructor
    · intro h'; exact absurd h' (State.writeStop_not_next hs t)
    · rintro ⟨-, h'⟩; rw [h' i hi] at hs; cases hs
  · rename_i h
    rw [List.findSome?_eq_none_iff] at h
    constructor
    · intro h'
      cases h'
      exact ⟨rfl, fun i hi => h _ (State.mem_chunkAddrs.2 ⟨i, hi, rfl⟩)⟩
    · rintro ⟨rfl, -⟩; rfl

/-! ### The lane computation on every lane -/

/-- The frame of the scale reconstruction: lanes and place change, nothing else does. -/
theorem State.scale_frame (s : State) : s.scale = { s with lanes := s.scale.lanes, stage := 0x04#5 } := by
  simp only [State.scale, State.index, State.expWord, State.fetchTable, State.patch, State.goto, State.eachLane]

/-- The lanes of the scale reconstruction. -/
theorem State.scale_lanes (s : State) :
    s.scale.lanes = s.lanes.map fun l => l.index.expWord.fetch.patch := by
  simp [State.scale, Function.comp_def]

/-- The frame of the lane computation: lanes, draws and place change, nothing else does. -/
theorem State.expm_frame (s : State) :
    s.expm = { s with lanes := s.expm.lanes, draws := s.draws + 6, stage := 0x0E#5 } := by
  simp only [State.expm, State.scale, State.bias, State.unbias, State.index, State.expWord, State.fetchTable, State.patch,
    State.resHi, State.resLo, State.mul, State.comb, State.cmp, State.mask, State.goto, State.drawLanes, State.eachLane, Nat.add_assoc,
    Nat.reduceAdd]

@[simp] theorem State.expm_params (s : State) : s.expm.params = s.params := by rw [State.expm_frame]
@[simp] theorem State.expm_len (s : State) : s.expm.len = s.len := by rw [State.expm_frame]
@[simp] theorem State.expm_inBase (s : State) : s.expm.inBase = s.inBase := by rw [State.expm_frame]
@[simp] theorem State.expm_outBase (s : State) : s.expm.outBase = s.outBase := by rw [State.expm_frame]
@[simp] theorem State.expm_cur (s : State) : s.expm.cur = s.cur := by rw [State.expm_frame]
@[simp] theorem State.expm_busy (s : State) : s.expm.busy = s.busy := by rw [State.expm_frame]
@[simp] theorem State.expm_mem (s : State) : s.expm.mem = s.mem := by rw [State.expm_frame]
@[simp] theorem State.expm_unreadable (s : State) : s.expm.unreadable = s.unreadable := by rw [State.expm_frame]
@[simp] theorem State.expm_unwritable (s : State) : s.expm.unwritable = s.unwritable := by rw [State.expm_frame]
@[simp] theorem State.expm_others (s : State) : s.expm.others = s.others := by rw [State.expm_frame]
@[simp] theorem State.expm_start (s : State) : s.expm.start = s.start := by rw [State.expm_frame]
@[simp] theorem State.expm_resetLine (s : State) : s.expm.resetLine = s.resetLine := by rw [State.expm_frame]
@[simp] theorem State.expm_original (s : State) : s.expm.original = s.original := by rw [State.expm_frame]
@[simp] theorem State.expm_events (s : State) : s.expm.events = s.events := by rw [State.expm_frame]
@[simp] theorem State.expm_stage (s : State) : s.expm.stage = 0x0E#5 := by rw [State.expm_frame]
@[simp] theorem State.expm_draws (s : State) : s.expm.draws = s.draws + 6 := by rw [State.expm_frame]

/-- The lanes of the lane computation. -/
theorem State.expm_lanes (s : State) :
    s.expm.lanes = s.lanes.mapIdx fun i l => l.expm s.params.c1 fun d => drawnNaN (s.draws + d) i := by
  apply List.ext_getElem?
  intro i
  simp [State.expm, State.scale, List.getElem?_mapIdx, Option.map_map, Function.comp_def, Lane.expm]

@[simp] theorem State.expm_W (s : State) : s.expm.W = s.W := by simp [State.W, State.expm_lanes]

@[simp] theorem State.scale_W (s : State) : s.scale.W = s.W := by simp [State.W, State.scale_lanes]

/-! ### A chunk, and the two guarded operations -/

/-- `VX.CHUNK` answers a next state exactly when a chunk is left and all its accesses may be made; the state is then that
of its four parts in turn. -/
theorem execVxChunk_eq_next {s t : State} :
    execVxChunk s = .next t ↔
      s.busy = true ∧ s.cur < s.len ∧
      (∀ i, i < s.W → s.readStop (s.inBase + 4 * (s.cur + i)) = none) ∧
      (∀ i, i < s.W → s.writeStop (s.outBase + 4 * (s.cur + i)) = none) ∧
      t = s.loaded.expm.stored.advance := by
  have hw : ∀ a, s.loaded.expm.writeStop a = s.writeStop a := fun a => by simp [State.writeStop]
  have ho : s.loaded.expm.outBase = s.outBase := by simp
  have hc : s.loaded.expm.cur = s.cur := by simp
  unfold execVxChunk
  split
  · rename_i h
    simp only [andThen_eq_next, State.loadChunk_eq_next, State.storeChunk_eq_next]
    constructor
    · rintro ⟨u, ⟨rfl, hr⟩, v, ⟨rfl, hv⟩, ht⟩
      refine ⟨h.1, h.2, hr, fun i hi => ?_, (Host.Outcome.next.inj ht).symm⟩
      have := hv i (by simpa using hi)
      rwa [hw, ho, hc] at this
    · rintro ⟨-, -, hr, hv, rfl⟩
      refine ⟨_, ⟨rfl, hr⟩, _, ⟨rfl, fun i hi => ?_⟩, rfl⟩
      rw [hw, ho, hc]
      exact hv i (by simpa using hi)
  · rename_i h
    constructor
    · intro h'; cases h'
    · rintro ⟨h1, h2, -⟩; exact absurd ⟨h1, h2⟩ h

/-- `VX.DONE` answers a next state exactly when a run is finished, and then it is `s.finished`. -/
theorem execVxDone_eq_next {s t : State} :
    execVxDone s = .next t ↔ s.busy = true ∧ s.cur = s.len ∧ t = s.finished := by
  unfold execVxDone
  split
  · rename_i h
    constructor
    · intro h'; cases h'; exact ⟨h.1, h.2, rfl⟩
    · rintro ⟨-, -, rfl⟩; rfl
  · rename_i h
    constructor
    · intro h'; cases h'
    · rintro ⟨h1, h2, -⟩; exact absurd ⟨h1, h2⟩ h

/-- `VX.START` answers a next state exactly when the tuple fits and no precondition is violated. -/
theorem execVxStart_eq_next {s t : State} {len inBase outBase : Nat} :
    execVxStart len inBase outBase s = .next t ↔
      s.Fits ⟨len, inBase, outBase⟩ ∧ s.violations ⟨len, inBase, outBase⟩ = [] ∧
        t = s.launched ⟨len, inBase, outBase⟩ := by
  have hf : Instr.wellFormed s.params.xlen (.vxStart len inBase outBase) = true ↔ s.Fits ⟨len, inBase, outBase⟩ := by
    simp [Instr.wellFormed, State.Fits, and_assoc]
  unfold execVxStart
  split
  · rename_i h
    split
    · rename_i hv
      constructor
      · intro h'; cases h'; exact ⟨hf.1 h, hv, rfl⟩
      · rintro ⟨-, -, rfl⟩; rfl
    · rename_i hv
      constructor
      · intro h'; cases h'
      · rintro ⟨-, h', -⟩; exact absurd h' hv
  · rename_i h
    constructor
    · intro h'; cases h'
    · rintro ⟨h', -⟩; exact absurd (hf.2 h') h

/-- No precondition is violated exactly when none is broken. -/
theorem State.violations_eq_nil {s : State} {l : Launch} :
    s.violations l = [] ↔ ∀ p, s.breaks l p = false := by
  rw [State.violations, List.filter_eq_nil_iff]
  constructor
  · intro h p
    have := h p (by cases p <;> simp)
    simpa using this
  · intro h p _
    simp [h p]

/-- Two buffers of words meet, as the model computes it, exactly when they have a byte in common. -/
theorem rangesMeet_eq_false {a n b m : Nat} : rangesMeet a (4 * n) b (4 * m) = false ↔ BuffersDisjoint a n b m := by
  rw [← Bool.not_eq_true, rangesMeet_iff]
  constructor
  · intro h i j hi hj he
    exact h ⟨a + i, by omega, by omega, by omega, by omega⟩
  · rintro h ⟨x, h1, h2, h3, h4⟩
    exact h (x - a) (x - b) (by omega) (by omega) (by omega)

/-- Two invocations conflict, as the model computes it, exactly when they may not run at once. -/
theorem Launch.conflicts_eq_false {l o : Launch} : l.conflicts o = false ↔ Apart l o := by
  simp [Launch.conflicts, Apart, rangesMeet_eq_false]

/-- Whether a tuple is admissible rests on `XLEN`, `W`, the grants and the invocations elsewhere alone, and the fewer of
these run, the more is. -/
theorem State.admissible_of_le {s u : State} {l : Launch} (h : s.Admissible l) (hp : u.params.xlen = s.params.xlen)
    (hW : u.W = s.W) (hr : u.unreadable = s.unreadable) (hw : u.unwritable = s.unwritable)
    (ho : ∀ o ∈ u.others, o ∈ s.others) : u.Admissible l :=
  ⟨hW ▸ h.lengthMultipleOfW, h.basesAligned, hp ▸ h.withinSpace, hr ▸ h.readable, hw ▸ h.writable, h.disjoint,
    fun o hm => h.noOther o (ho o hm)⟩

/-- P5 of R162, as the model computes it: no byte of an input word is in an unreadable range, and none of an output word in
an unwritable one. -/
theorem State.breaks_accessible_eq_false {s : State} {l : Launch} :
    s.breaks l .accessible = false ↔
      (∀ i, i < l.len → ∀ r ∈ s.unreadable, OutsideRegion l.inBase i r) ∧
        ∀ i, i < l.len → ∀ r ∈ s.unwritable, OutsideRegion l.outBase i r := by
  have h (regions : List Region) (base : Nat) : meetsAny regions base (4 * l.len) = false ↔
      ∀ i, i < l.len → ∀ r ∈ regions, OutsideRegion base i r := by
    rw [meetsAny_eq_false]
    constructor
    · intro h i hi r hr b hb hx
      exact h r hr (base + 4 * i + b) (by omega) (by omega) hx
    · intro h r hr x h1 h2 hx
      exact h ((x - base) / 4) (by omega) r hr ((x - base) % 4) (by omega) ⟨by omega, by omega⟩
  simp only [State.breaks, Bool.or_eq_false_iff, h]

/-- No precondition is violated exactly when the instance is idle and the tuple admissible. -/
theorem State.violations_eq_nil_iff {s : State} {l : Launch} :
    s.violations l = [] ↔ s.busy = false ∧ s.Admissible l := by
  rw [State.violations_eq_nil]
  constructor
  · intro h
    obtain ⟨h5r, h5w⟩ := State.breaks_accessible_eq_false.1 (h .accessible)
    have h7 := h .noOtherInvocation
    simp only [State.breaks] at h7
    refine ⟨h .idle, ⟨?_, ?_, ?_, h5r, h5w, rangesMeet_eq_false.1 (h .buffersDisjoint), ?_⟩⟩
    · exact Nat.dvd_of_mod_eq_zero (by simpa [State.breaks] using h .lengthMultipleOfW)
    · simpa [State.breaks] using h .basesAligned
    · simpa [State.breaks] using h .withinSpace
    · intro o ho
      exact Launch.conflicts_eq_false.1 (by simpa using List.any_eq_false.1 h7 o ho)
  · rintro ⟨hb, ha⟩ p
    by_cases hp : p = .accessible
    · exact hp ▸ State.breaks_accessible_eq_false.2 ⟨ha.readable, ha.writable⟩
    cases p <;> simp only [State.breaks]
    · exact hb
    · simpa using Nat.mod_eq_zero_of_dvd ha.lengthMultipleOfW
    · simpa using ha.basesAligned
    · simpa using ha.withinSpace
    · exact absurd rfl hp
    · exact rangesMeet_eq_false.2 ha.disjoint
    · refine List.any_eq_false.2 fun o ho => ?_
      simpa using Launch.conflicts_eq_false.2 (ha.noOther o ho)

/-! ### What a chunk's stores and a reset can write -/

/-- Storing a chunk changes no byte outside the chunk's words. -/
theorem State.stored_readByte_outside {s : State} (hw : s.mem.wf = true) {a : Nat}
    (h : ¬ (s.outBase + 4 * s.cur ≤ a ∧ a < s.outBase + 4 * (s.cur + s.W))) :
    s.stored.mem.readByte a = s.mem.readByte a := by
  refine Memory.readByte_writeWords_outside hw fun e he => ?_
  obtain ⟨i, l, hil, rfl⟩ := State.mem_chunkWords.1 he
  have hi : i < s.W := (List.getElem?_eq_some_iff.1 hil).1
  simp only
  omega

/-- What a reset writes of an abandoned invocation: words of its output buffer, those that may be written, each with its
final value or what was there at the start. -/
theorem State.mem_abandonedWords {s : State} {outBase len draw : Nat} {final untouched : Nat → Word}
    {e : Nat × Word} :
    e ∈ s.abandonedWords outBase len draw final untouched ↔ ∃ i, i < len ∧ s.writeStop (outBase + 4 * i) = none ∧
      e = (outBase + 4 * i, if Config.finalAtReset draw i then final i else untouched i) := by
  have ha : ∀ i, elementAddr outBase i = outBase + 4 * i := fun _ => rfl
  simp only [State.abandonedWords, List.mem_filterMap, List.mem_range, ha]
  constructor
  · rintro ⟨i, hi, hx⟩
    split at hx
    · rename_i hw
      exact ⟨i, hi, by simpa using hw, (Option.some.inj hx).symm⟩
    · cases hx
  · rintro ⟨i, hi, hw, rfl⟩
    exact ⟨i, hi, if_pos (by rw [hw]; rfl)⟩

/-- What a reset writes of this instance's run. -/
theorem State.mem_ownWordsAtReset {s : State} {e : Nat × Word} :
    e ∈ s.ownWordsAtReset ↔ s.busy = true ∧ ∃ i, i < s.len ∧ s.writeStop (s.outBase + 4 * i) = none ∧
      e = (s.outBase + 4 * i,
        if Config.finalAtReset s.draws i then s.finalWord i else s.original.readWord (s.outBase + 4 * i)) := by
  unfold State.ownWordsAtReset
  split
  · rename_i hb
    simp only [State.mem_abandonedWords, hb, true_and]
    rfl
  · rename_i hb
    simp [hb]

/-- What a reset writes: words of this instance's run, and words of the invocations on other instances. -/
theorem State.mem_wordsAtReset {s : State} {e : Nat × Word} :
    e ∈ s.wordsAtReset ↔ e ∈ s.ownWordsAtReset ∨
      ∃ (k : Nat) (o : Launch), s.others[k]? = some o ∧ e ∈ s.otherWordsAtReset o (s.draws + 6 * (k + 1)) := by
  simp only [State.wordsAtReset, List.mem_append, List.mem_flatMap]
  refine or_congr Iff.rfl ⟨?_, ?_⟩
  · rintro ⟨⟨o, k⟩, hm, he⟩
    exact ⟨k, o, List.mem_zipIdx_iff_getElem?.1 hm, he⟩
  · rintro ⟨k, o, hm, he⟩
    exact ⟨(o, k), List.mem_zipIdx_iff_getElem?.2 hm, he⟩

end Sys2Proof.Machine
end

