-- ==== Sys2Proof/Laws/HostMoves.lean ====
section
/-! SUPPORT. What each move between two steps can do, said once. -/

namespace Sys2Proof.Machine

/-- An invocation runs exactly when this instance is in it or another is. -/
theorem State.mem_running {s : State} {o : Launch} :
    o ∈ s.running ↔ (s.busy = true ∧ o = s.invocation) ∨ o ∈ s.others := by
  unfold State.running
  split <;> simp_all

theorem inBuffer_iff {base len a : Nat} : inBuffer base len a = true ↔ base ≤ a ∧ a < base + 4 * len := by
  simp [inBuffer]

/-- A byte the host writes exists and lies in no buffer of a running invocation. -/
theorem State.hostWrite_eq_some {s t : State} {a : Nat} {v : Byte} :
    s.hostWrite a v = some t ↔ a < 2 ^ s.params.xlen ∧
      (∀ o ∈ s.running, ¬ (o.inBase ≤ a ∧ a < o.inBase + 4 * o.len) ∧
        ¬ (o.outBase ≤ a ∧ a < o.outBase + 4 * o.len)) ∧
      t = { s with mem := s.mem.writeByte a v } := by
  unfold State.hostWrite
  split
  · rename_i h
    simp only [reduceCtorEq, false_iff]
    rintro ⟨ha, hr, -⟩
    simp only [Bool.or_eq_true, List.any_eq_true, inBuffer_iff, decide_eq_true_eq] at h
    obtain ⟨o, ho, h | h⟩ | h := h
    · exact (hr o ho).1 h
    · exact (hr o ho).2 h
    · omega
  · rename_i h
    simp only [Bool.or_eq_true, List.any_eq_true, inBuffer_iff, decide_eq_true_eq, not_or, not_exists, not_and] at h
    rw [Option.some_inj]
    constructor
    · rintro rfl
      exact ⟨by omega, fun o ho => ⟨fun hh => (h.1 o ho).1 hh.1 hh.2, fun hh => (h.1 o ho).2 hh.1 hh.2⟩, rfl⟩
    · rintro ⟨-, -, rfl⟩
      rfl

/-- A byte the host reads exists and lies in no output of a running invocation. -/
theorem State.hostRead_eq_some {s : State} {a : Nat} {v : Byte} :
    s.hostRead a = some v ↔ a < 2 ^ s.params.xlen ∧
      (∀ o ∈ s.running, ¬ (o.outBase ≤ a ∧ a < o.outBase + 4 * o.len)) ∧ v = s.mem.readByte a := by
  unfold State.hostRead
  split
  · rename_i h
    simp only [reduceCtorEq, false_iff]
    rintro ⟨ha, hr, -⟩
    simp only [Bool.or_eq_true, List.any_eq_true, inBuffer_iff, decide_eq_true_eq] at h
    obtain ⟨o, ho, h⟩ | h := h
    · exact hr o ho h
    · omega
  · rename_i h
    simp only [Bool.or_eq_true, List.any_eq_true, inBuffer_iff, decide_eq_true_eq, not_or, not_exists, not_and] at h
    rw [Option.some_inj]
    constructor
    · rintro rfl
      exact ⟨by omega, fun o ho hh => h.1 o ho hh.1 hh.2, rfl⟩
    · rintro ⟨-, -, rfl⟩
      rfl

/-- The grants change where every running invocation keeps its input readable and its output writable. -/
theorem State.hostGrants_eq_some {s t : State} {unreadable unwritable : List Region} :
    s.hostGrants unreadable unwritable = some t ↔
      (∀ o ∈ s.running, ∀ i, i < o.len →
        (∀ r ∈ unreadable, OutsideRegion o.inBase i r) ∧ ∀ r ∈ unwritable, OutsideRegion o.outBase i r) ∧
      t = { s with unreadable := unreadable, unwritable := unwritable } := by
  have hc : (s.running.any fun o =>
      State.breaks { s with unreadable := unreadable, unwritable := unwritable } o .accessible) = false ↔
        ∀ o ∈ s.running, ∀ i, i < o.len →
          (∀ r ∈ unreadable, OutsideRegion o.inBase i r) ∧ ∀ r ∈ unwritable, OutsideRegion o.outBase i r := by
    simp only [List.any_eq_false, Bool.not_eq_true, State.breaks_accessible_eq_false]
    exact forall₂_congr fun o _ => ⟨fun h i hi => ⟨h.1 i hi, h.2 i hi⟩, fun h => ⟨fun i hi => (h i hi).1,
      fun i hi => (h i hi).2⟩⟩
  unfold State.hostGrants
  split
  · rename_i h
    simp only [reduceCtorEq, false_iff]
    rintro ⟨h', -⟩
    rw [← hc, h] at h'
    cases h'
  · rename_i h
    rw [← hc, Option.some_inj]
    exact ⟨fun ht => ⟨by simpa using h, ht.symm⟩, fun ht => ht.2.symm⟩

/-- `VX.START` on another instance is admitted for a tuple that is admissible by the other invocations there and apart from
this instance's run. -/
theorem State.elsewhere_admissible {s : State} {l : Launch} :
    s.elsewhere.Admissible l ↔ s.Admissible l ∧ (s.busy = true → Apart l s.invocation) := by
  constructor
  · intro h
    exact ⟨State.admissible_of_le h rfl rfl rfl rfl fun o ho => State.mem_running.2 (.inr ho),
      fun hb => h.noOther _ (State.mem_running.2 (.inl ⟨hb, rfl⟩))⟩
  · rintro ⟨h, hs⟩
    refine ⟨h.lengthMultipleOfW, h.basesAligned, h.withinSpace, h.readable, h.writable, h.disjoint, fun o ho => ?_⟩
    obtain ⟨hb, rfl⟩ | ho := State.mem_running.1 ho
    · exact hs hb
    · exact h.noOther o ho

/-- Where another instance admits a tuple, what follows here is one invocation more in the list. -/
theorem State.elsewhereStarts_cases {s t : State} {l : Launch} (h : s.elsewhereStarts l = some t) :
    s.resetLine = false ∧ s.Fits l ∧ s.elsewhere.Admissible l ∧ t = { s with others := l :: s.others } := by
  unfold State.elsewhereStarts at h
  split at h
  · cases h
  · rename_i hr
    split at h
    · rename_i u hu
      obtain ⟨hf, hv, -⟩ := execVxStart_eq_next.1 hu
      exact ⟨by simpa using hr, hf, (State.violations_eq_nil_iff.1 hv).2, (Option.some.inj h).symm⟩
    · cases h

/-- Where an invocation ends elsewhere, its results are stored, it leaves the list, and six draws are spent. -/
theorem State.elsewhereEnds_cases {s t : State} {o : Launch} (h : s.elsewhereEnds o = some t) :
    s.resetLine = false ∧ o ∈ s.others ∧
      t = { s with
        mem := s.mem.writeWords
          ((List.range o.len).map fun i => (elementAddr o.outBase i, s.computedWord o.inBase s.draws i))
        others := s.others.erase o
        draws := s.draws + 6 } := by
  unfold State.elsewhereEnds at h
  split at h
  · cases h
  · rename_i hc
    simp only [Bool.or_eq_true, Bool.not_eq_true', not_or, Bool.not_eq_true, Bool.not_eq_false,
      List.contains_iff_mem] at hc
    exact ⟨hc.1, hc.2, (Option.some.inj h).symm⟩

end Sys2Proof.Machine
end

