-- ==== Sys2Proof/Laws/PerInstr.lean ====
section
/-! SUPPORT. What holds of every operation as syntax, one lemma per constructor. -/

namespace Sys2Proof.Laws

/-- The code byte of an operation is a 5-bit code of the map (R69), and it names the operation: `0x00` is `VX.START`, and
any other code is read back by `ofStageCode`, with no operand bytes after it. -/
def CodeByte.Statement (i : Instr) : Prop :=
  i.stageCode.toNat ≤ 0x13 ∧
    ((i.stageCode.toNat = 0 ∧ ∃ len inBase outBase, i = .vxStart len inBase outBase) ∨
     (i.stageCode.toNat ≠ 0 ∧ ofStageCode i.stageCode.toNat = some i ∧ ∀ xlen, i.operands xlen = []))

theorem CodeByte.vxStart (len inBase outBase : Nat) : CodeByte.Statement (.vxStart len inBase outBase) :=
  ⟨Nat.zero_le _, .inl ⟨rfl, len, inBase, outBase, rfl⟩⟩

theorem CodeByte.vxLoad : CodeByte.Statement .vxLoad :=
  ⟨by decide, .inr ⟨by decide, rfl, fun _ => rfl⟩⟩

theorem CodeByte.rrBias : CodeByte.Statement .rrBias :=
  ⟨by decide, .inr ⟨by decide, rfl, fun _ => rfl⟩⟩

theorem CodeByte.rrUnbias : CodeByte.Statement .rrUnbias :=
  ⟨by decide, .inr ⟨by decide, rfl, fun _ => rfl⟩⟩

theorem CodeByte.rrReshi : CodeByte.Statement .rrReshi :=
  ⟨by decide, .inr ⟨by decide, rfl, fun _ => rfl⟩⟩

theorem CodeByte.rrReslo : CodeByte.Statement .rrReslo :=
  ⟨by decide, .inr ⟨by decide, rfl, fun _ => rfl⟩⟩

theorem CodeByte.srIndex : CodeByte.Statement .srIndex :=
  ⟨by decide, .inr ⟨by decide, rfl, fun _ => rfl⟩⟩

theorem CodeByte.srExpw : CodeByte.Statement .srExpw :=
  ⟨by decide, .inr ⟨by decide, rfl, fun _ => rfl⟩⟩

theorem CodeByte.lutFetch : CodeByte.Statement .lutFetch :=
  ⟨by decide, .inr ⟨by decide, rfl, fun _ => rfl⟩⟩

theorem CodeByte.xpPatch : CodeByte.Statement .xpPatch :=
  ⟨by decide, .inr ⟨by decide, rfl, fun _ => rfl⟩⟩

theorem CodeByte.peMul : CodeByte.Statement .peMul :=
  ⟨by decide, .inr ⟨by decide, rfl, fun _ => rfl⟩⟩

theorem CodeByte.peComb : CodeByte.Statement .peComb :=
  ⟨by decide, .inr ⟨by decide, rfl, fun _ => rfl⟩⟩

theorem CodeByte.dcCmp : CodeByte.Statement .dcCmp :=
  ⟨by decide, .inr ⟨by decide, rfl, fun _ => rfl⟩⟩

theorem CodeByte.dcMask : CodeByte.Statement .dcMask :=
  ⟨by decide, .inr ⟨by decide, rfl, fun _ => rfl⟩⟩

theorem CodeByte.vxStore : CodeByte.Statement .vxStore :=
  ⟨by decide, .inr ⟨by decide, rfl, fun _ => rfl⟩⟩

theorem CodeByte.vxNext : CodeByte.Statement .vxNext :=
  ⟨by decide, .inr ⟨by decide, rfl, fun _ => rfl⟩⟩

theorem CodeByte.vxDone : CodeByte.Statement .vxDone :=
  ⟨by decide, .inr ⟨by decide, rfl, fun _ => rfl⟩⟩

theorem CodeByte.srScale : CodeByte.Statement .srScale :=
  ⟨by decide, .inr ⟨by decide, rfl, fun _ => rfl⟩⟩

theorem CodeByte.laneExpm : CodeByte.Statement .laneExpm :=
  ⟨by decide, .inr ⟨by decide, rfl, fun _ => rfl⟩⟩

theorem CodeByte.vxChunk : CodeByte.Statement .vxChunk :=
  ⟨by decide, .inr ⟨by decide, rfl, fun _ => rfl⟩⟩

end Sys2Proof.Laws
end

