-- ==== Sys2Proof/Laws/Step.lean ====
section
/-! SUPPORT. What one step can do, said once. -/

namespace Sys2Proof.Machine

/-- The three ways a step can answer a next state: reset, idleness, or the operation presented. -/
theorem step_cases {s t : State} (h : step s = .next t) :
    (s.resetLine = true ∧ t = s.afterReset) ∨
    (s.resetLine = false ∧ s.fetch = none ∧ t = s) ∨
    (s.resetLine = false ∧ ∃ bytes i rest, s.fetch = some bytes ∧ decode s.params.xlen bytes = .ok (i, rest) ∧
      exec i s = .next t) := by
  unfold step at h
  split at h
  · rename_i hr
    exact .inl ⟨hr, (Host.Outcome.next.inj h).symm⟩
  · rename_i hr
    simp only [Bool.not_eq_true] at hr
    split at h
    · rename_i hf
      exact .inr (.inl ⟨hr, hf, (Host.Outcome.next.inj h).symm⟩)
    · rename_i bytes hf
      split at h
      · rename_i i rest hd
        exact .inr (.inr ⟨hr, bytes, i, rest, hf, hd, h⟩)
      · cases h

/-- An instance with no tuple presented has something to do exactly when it is busy. -/
theorem State.fetch_of_no_start {s : State} (h : s.start = none) :
    s.fetch = if s.busy then some [s.stage.setWidth 8] else none := by
  simp [State.fetch, h]

/-- The place of a busy instance, decoded. -/
theorem decode_stage (xlen : Nat) (code : StageCode) (h : code ≠ 0#5) :
    decode xlen [code.setWidth 8] =
      match ofStageCode code.toNat with
      | some i => .ok (i, [])
      | none => .error (.unassigned (code.setWidth 8)) := by
  have hn : (code.setWidth 8).toNat = code.toNat := by
    rw [BitVec.toNat_setWidth]; exact Nat.mod_eq_of_lt (by have := code.isLt; omega)
  have h0 : code.toNat ≠ 0 := fun h' => h (BitVec.eq_of_toNat_eq (by simpa using h'))
  have h1 : ¬ 32 ≤ code.toNat := by have := code.isLt; omega
  cases hc : ofStageCode code.toNat <;> simp only [decode, hn, if_neg h0, if_neg h1, hc]

/-- A busy instance with no input pending runs the operation whose stage code it is at. -/
theorem step_of_stage {s : State} {i : Instr} (hr : s.resetLine = false) (hs : s.start = none) (hb : s.busy = true)
    (h0 : s.stage ≠ 0#5) (hi : ofStageCode s.stage.toNat = some i) : step s = exec i s := by
  have hf : s.fetch = some [s.stage.setWidth 8] := by simp [State.fetch_of_no_start hs, hb]
  simp only [step, hr, hf, decode_stage _ _ h0, hi, Bool.false_eq_true, if_false]

/-! ### Runs -/

@[simp] theorem runSteps_zero (s : State) : runSteps 0 s = .next s := rfl

theorem runSteps_succ (k : Nat) (s : State) : runSteps (k + 1) s = andThen (step s) (runSteps k) := by
  have h : Sys2Proof.core.step s = step s := rfl
  simp only [runSteps, Host.Core.run, h]
  cases step s <;> rfl

/-- A run in two parts. -/
theorem runSteps_add (j k : Nat) (s : State) : runSteps (j + k) s = andThen (runSteps j s) (runSteps k) := by
  induction j generalizing s with
  | zero => simp
  | succ j ih =>
    rw [Nat.add_right_comm, runSteps_succ, runSteps_succ]
    cases step s with
    | next t => simp [ih]
    | fault e => rfl
    | refused e => rfl

/-- Running on from a busy instance with no input pending. -/
theorem runSteps_of_stage {s : State} {i : Instr} (k : Nat) (hr : s.resetLine = false) (hs : s.start = none)
    (hb : s.busy = true) (h0 : s.stage ≠ 0#5) (hi : ofStageCode s.stage.toNat = some i) :
    runSteps (k + 1) s = andThen (exec i s) (runSteps k) := by
  rw [runSteps_succ, step_of_stage hr hs hb h0 hi]

end Sys2Proof.Machine
end

