-- ==== Sys2Proof/Tests/Slice0.lean ====
section
/-! SUPPORT. Tests: the well-formedness smoke test, decoding of written-out words, single operations on the values of
95_test_vectors.md, and for every statement with hypotheses a concrete case that meets them. -/

namespace Sys2Proof.Tests.Slice0

open Sys2Proof.Machine
open Sys2Proof.Machine.Binary32 (isNaN isInf isZero isFinite sign inf fma fmul fsub flt)

/-! ### Well-formedness: one ill-formed term for each of the three checks (R68) -/

theorem test_wf_len : Instr.wellFormed 64 (.vxStart (2 ^ 64) 0 0) = false := by decide
theorem test_wf_in : Instr.wellFormed 64 (.vxStart 0 (2 ^ 64) 0) = false := by decide
theorem test_wf_out : Instr.wellFormed 64 (.vxStart 0 0 (2 ^ 64)) = false := by decide
theorem test_wf_accepts : Instr.wellFormed 64 (.vxStart (2 ^ 64 - 1) (2 ^ 64 - 1) (2 ^ 64 - 1)) = true := by decide

/-! ### Decoding: every code of R69, written out bit by bit -/

theorem test_decode_sequencer :
    decodeTableWord 8 0b00000 = some (.vxStart 0 0 0) ∧ decodeTableWord 8 0b00001 = some .vxLoad ∧
    decodeTableWord 8 0b01110 = some .vxStore ∧ decodeTableWord 8 0b01111 = some .vxNext ∧
    decodeTableWord 8 0b10000 = some .vxDone ∧ decodeTableWord 8 0b10011 = some .vxChunk ∧
    decodeTableWord 8 0b10010 = some .laneExpm := by decide

theorem test_decode_range_reducer :
    decodeTableWord 8 0b00010 = some .rrBias ∧ decodeTableWord 8 0b00011 = some .rrUnbias ∧
    decodeTableWord 8 0b00100 = some .rrReshi ∧ decodeTableWord 8 0b00101 = some .rrReslo := by decide

theorem test_decode_scale :
    decodeTableWord 8 0b00110 = some .srIndex ∧ decodeTableWord 8 0b00111 = some .srExpw ∧
    decodeTableWord 8 0b01000 = some .lutFetch ∧ decodeTableWord 8 0b01001 = some .xpPatch ∧
    decodeTableWord 8 0b10001 = some .srScale := by decide

theorem test_decode_polynomial_and_clamp :
    decodeTableWord 8 0b01010 = some .peMul ∧ decodeTableWord 8 0b01011 = some .peComb ∧
    decodeTableWord 8 0b01100 = some .dcCmp ∧ decodeTableWord 8 0b01101 = some .dcMask := by decide

/-- The tuple `(4, 0x1000, 0x2000)` of R162's example, at `XLEN = 16` and at the odd width 12. -/
theorem test_decode_tuple :
    decode 16 [0x00#8, 0x04#8, 0x00#8, 0x00#8, 0x10#8, 0x00#8, 0x20#8, 0x99#8] =
      .ok (.vxStart 4 0x1000 0x2000, [0x99#8]) ∧
    decode 12 [0x00#8, 0x04#8, 0x00#8, 0x00#8, 0x01#8, 0xFF#8, 0x0F#8] = .ok (.vxStart 4 0x100 0xFFF, []) := by decide

theorem test_decode_refuses :
    decode 64 [] = .error .noBytes ∧ decode 64 [0x14#8] = .error (.unassigned 0x14#8) ∧
    decode 64 [0x22#8] = .error (.notAStageCode 0x22#8) ∧
    decode 16 [0x00#8, 0x04#8, 0x00#8, 0x00#8] = .error .operandsCutShort ∧
    decode 12 [0x00#8, 0x04#8, 0x10#8, 0x00#8, 0x01#8, 0xFF#8, 0x0F#8] = .error (.operandTooWide 0x1004) := by decide

/-! ### One lane operation at a time, on the traces V4, V6, V41 and W-vectors of 95_test_vectors.md -/

/-- The one lane of a block of width 1 after an operation on it. -/
def after (i : Instr) (l : Lane) (c1 : Config.Coefficient := .one) : Lane :=
  match exec i { State.reset with lanes := [l], params := { Config.ref with c1 := c1 } } with
  | .next t => t.lanes.headD Lane.zero
  | .fault _ => Lane.zero
  | .refused _ => Lane.zero

/-- `RR.BIAS` of R91's example, and the first input where two roundings would differ (V35). -/
theorem test_bias : (after .rrBias { Lane.zero with x := 0xBF000000#32 }).nraw = 0x4B3FFA3B#32 ∧
    (after .rrBias { Lane.zero with x := 0xBA051592#32 }).nraw = 0x4B3FFFFF#32 := by decide +kernel

/-- `RR.UNBIAS` of R92's example, and `NRAW = K_B` gives `+0`. -/
theorem test_unbias : (after .rrUnbias { Lane.zero with nraw := 0x4B3FFA3B#32 }).n = 0xC4B8A000#32 ∧
    (after .rrUnbias { Lane.zero with nraw := 0x4B400000#32 }).n = 0x00000000#32 := by decide +kernel

/-- `RR.RESHI` of R95's example, and `N = +0`, `X = -0` gives `-0`. -/
theorem test_reshi :
    (after .rrReshi { Lane.zero with n := 0xC4B8A000#32, x := 0xBF000000#32 }).t = 0xB8E2EE20#32 ∧
    (after .rrReshi { Lane.zero with x := 0x80000000#32 }).t = 0x80000000#32 := by decide +kernel

/-- `RR.RESLO` of R96's example, and `N = +0`, `T = -0` gives `+0`. -/
theorem test_reslo :
    (after .rrReslo { Lane.zero with n := 0xC4B8A000#32, t := 0xB8E2EE20#32 }).t = 0xB8E2EEDD#32 ∧
    (after .rrReslo { Lane.zero with t := 0x80000000#32 }).t = 0x00000000#32 := by decide +kernel

/-- `SR.INDEX` of V4 and of V3: the low 11 bits of `NRAW`. -/
theorem test_index : (after .srIndex { Lane.zero with nraw := 0x4B3FFA3B#32 }).k = 571#11 ∧
    (after .srIndex { Lane.zero with nraw := 0x4B12EA71#32 }).k = 625#11 := by decide

/-- `SR.EXPW` of V4 (`e = -1`) and of V3 (`e = -1443`). -/
theorem test_expw : (after .srExpw { Lane.zero with nraw := 0x4B3FFA3B#32 }).ew = 0xFF800000#32 ∧
    (after .srExpw { Lane.zero with nraw := 0x4B12EA71#32 }).ew = 0x2E800000#32 := by decide

/-- `LUT.FETCH` by the sample table of section 2.1. -/
theorem test_fetch : (after .lutFetch { Lane.zero with k := 571#11 }).l = 0x3F9B49E5#32 ∧
    (after .lutFetch { Lane.zero with k := 2047#11 }).l = 0x3FFFE9D3#32 := by decide +kernel

/-- `XP.PATCH` of V4, and of V6, where the sum's exponent field is 0. -/
theorem test_patch :
    (after .xpPatch { Lane.zero with l := 0x3F9B49E5#32, ew := 0xFF800000#32 }).s = 0x3F1B49E5#32 ∧
    (after .xpPatch { Lane.zero with l := 0x3FD9648D#32, ew := 0xC0800000#32 }).s = 0x0059648D#32 := by decide

/-- `SR.SCALE` of V4: four operations at once. -/
theorem test_scale : after .srScale { Lane.zero with nraw := 0x4B3FFA3B#32 } =
    { Lane.zero with nraw := 0x4B3FFA3B#32, k := 571#11, ew := 0xFF800000#32, l := 0x3F9B49E5#32, s := 0x3F1B49E5#32 } := by
  decide +kernel

/-- `PE.MUL` of V4 under REF, ALT and ALT2. -/
theorem test_mul : (after .peMul { Lane.zero with t := 0xB8E2EEDD#32 }).p = 0xB8E2EEDD#32 ∧
    (after .peMul { Lane.zero with t := 0xB8E2EEDD#32 } .below).p = 0xB8E2EEDC#32 ∧
    (after .peMul { Lane.zero with t := 0xB8E2EEDD#32 } .above).p = 0xB8E2EEDF#32 := by decide +kernel

/-- `PE.COMB` of V4, and of V6, whose result is subnormal. -/
theorem test_comb :
    (after .peComb { Lane.zero with s := 0x3F1B49E5#32, p := 0xB8E2EEDD#32 }).f = 0x3F1B4598#32 ∧
    (after .peComb { Lane.zero with s := 0x0059648D#32, p := 0x378A302B#32 }).f = 0x005964EE#32 := by decide +kernel

/-- `DC.CMP` at the cutoff and one word below it (V7, V8), at `-inf` and at a NaN. -/
theorem test_cmp : (after .dcCmp { Lane.zero with x := 0xC2AEAC4F#32 }).m = 0x00000000#32 ∧
    (after .dcCmp { Lane.zero with x := 0xC2AEAC50#32 }).m = 0xFFFFFFFF#32 ∧
    (after .dcCmp { Lane.zero with x := 0xFF800000#32 }).m = 0xFFFFFFFF#32 ∧
    (after .dcCmp { Lane.zero with x := 0xFFC00000#32 }).m = 0x00000000#32 := by decide +kernel

/-- `DC.MASK` of V4 and of V6. -/
theorem test_mask : (after .dcMask { Lane.zero with f := 0x3F1B4598#32 }).y = 0x3F1B4598#32 ∧
    (after .dcMask { Lane.zero with f := 0x005964EE#32, m := 0xFFFFFFFF#32 }).y = 0x00000000#32 := by decide

/-- `LANE.EXPM` on R160's worked example (V4), register by register. -/
theorem test_expm : after .laneExpm { Lane.zero with x := 0xBF000000#32 } =
    { x := 0xBF000000#32, nraw := 0x4B3FFA3B#32, n := 0xC4B8A000#32, k := 571#11, ew := 0xFF800000#32,
      l := 0x3F9B49E5#32, s := 0x3F1B49E5#32, t := 0xB8E2EEDD#32, p := 0xB8E2EEDD#32, f := 0x3F1B4598#32,
      m := 0x00000000#32, y := 0x3F1B4598#32 } := by decide +kernel

/-- The output is NOT monotone: the pair V30, V31 of adjacent inputs (R171, row 6). -/
theorem test_not_monotone : (after .laneExpm { Lane.zero with x := 0xBB68E5BF#32 }).y = 0x3F7F1783#32 ∧
    (after .laneExpm { Lane.zero with x := 0xBB68E5C0#32 }).y = 0x3F7F1784#32 := by decide +kernel

/-- Rows of R170 above the domain: 88 and 177.5, and the first input whose output is `+inf`. -/
theorem test_above_the_domain : laneY .one 0x42B00000#32 = some 0x7EF882B7#32 ∧
    laneY .one 0x43318000#32 = some 0xBF872540#32 ∧ laneY .one 0x42B17218#32 = some 0x7F800000#32 ∧
    laneY .one 0x42B17217#32 = none := by decide +kernel

/-- Inputs that separate the three coefficients (V50, V28, V29). -/
theorem test_coefficients : laneY .one 0xB3C00000#32 = some 0x3F7FFFFE#32 ∧
    laneY .below 0xB3C00000#32 = some 0x3F7FFFFF#32 ∧ laneY .above 0xB3000000#32 = some 0x3F7FFFFF#32 ∧
    laneY .below 0xB3000001#32 = some 0x3F800000#32 := by decide +kernel

/-- Whole-table checks of section 2.1: the sum of the 2048 words modulo `2^32`, and their exclusive or. -/
theorem test_table_checksums : tableWords.foldl (· + ·) 0#32 = 0xC511DA31#32 ∧
    tableWords.foldl (· ^^^ ·) 0#32 = 0x006321FF#32 := by decide +kernel

/-! ### The sequencer -/

/-- The input words of S2: `-1000`, `-0.5`, `-0.0001`, `-87.5`, at `0x1010`: elements 4 to 7 of a buffer at `0x1000`. -/
def s2Memory : Memory :=
  Memory.writeWords []
    [(0x1010, 0xC47A0000#32), (0x1014, 0xBF000000#32), (0x1018, 0xB8D1B717#32), (0x101C, 0xC2AF0000#32)]

/-- An idle block with the tuple `(8, 0x1000, 0x2000)` presented. -/
def presented : State := { State.reset with start := some ⟨8, 0x1000, 0x2000⟩, mem := s2Memory }

/-- A block in the second and last chunk of that run, at the place of an operation. -/
def atPlace (code : StageCode) : State :=
  { State.reset with len := 8, inBase := 0x1000, outBase := 0x2000, cur := 4, busy := true, mem := s2Memory,
                     stage := code }

/-- The same run at its end. -/
def atDone : State := { atPlace 0x10#5 with cur := 8 }

/-- What an operation leaves, where it gives a next state. -/
def next (r : Result) : Option State :=
  match r with
  | .next t => some t
  | .fault _ => none
  | .refused _ => none

/-- Why an operation is refused, where it is. -/
def refusal (r : Result) : Option Refusal :=
  match r with
  | .next _ => none
  | .fault _ => none
  | .refused e => some e

/-- `VX.START` of R162's examples: admitted, and refused for P2. -/
theorem test_start : next (exec (.vxStart 4 0x1000 0x2000) State.reset) = some
      { State.reset with len := 4, inBase := 0x1000, outBase := 0x2000, busy := true, stage := 0x01#5 } ∧
    refusal (exec (.vxStart 6 0x1000 0x2000) State.reset) = some (.launch [.lengthMultipleOfW]) := by decide

/-- `VX.START` with several violations at once carries them all: busy, odd base, overlap. -/
theorem test_start_violations :
    refusal (exec (.vxStart 4 0x1001 0x1000) (atPlace 0x01#5)) =
      some (.launch [.idle, .basesAligned, .buffersDisjoint]) := by decide

/-- `VX.LOAD` of R163's example: `CUR = 4`, `W = 4` reads the words at `0x1010` to `0x101C`. -/
theorem test_load : (next (exec .vxLoad (atPlace 0x01#5))).map (fun t => t.lanes.map Lane.x) =
      some [0xC47A0000#32, 0xBF000000#32, 0xB8D1B717#32, 0xC2AF0000#32] ∧
    (next (exec .vxLoad (atPlace 0x01#5))).map State.events =
      some [.loaded [0x1010, 0x1014, 0x1018, 0x101C]] := by decide

/-- `VX.STORE`: little-endian words (R42), a zero byte not listed. -/
theorem test_store :
    (next (exec .vxStore { atPlace 0x0E#5 with mem := [], lanes := [{ Lane.zero with y := 0x3F1B4500#32 }] })).map
      State.mem = some [(0x2011, 0x45#8), (0x2012, 0x1B#8), (0x2013, 0x3F#8)] := by decide

/-- `VX.NEXT` of R166's example: `LEN = 8`, `W = 4`, `CUR` goes from 0 to 4 to 8. -/
theorem test_next :
    (next (exec .vxNext { atPlace 0x0F#5 with cur := 0 })).map (fun t => (t.cur, t.stage)) = some (4, 0x01#5) ∧
    (next (exec .vxNext (atPlace 0x0F#5))).map (fun t => (t.cur, t.stage)) = some (8, 0x10#5) := by decide

/-- `VX.DONE` ends the run and keeps `CUR = LEN`. -/
theorem test_done : (next (exec .vxDone atDone)).map (fun t => (t.busy, t.cur, t.events)) = some (false, 8, [.done]) ∧
    refusal (exec .vxDone (atPlace 0x10#5)) = some .runNotFinished := by decide

/-- `VX.CHUNK` on S2: the four output words of program PR2. -/
theorem test_chunk : (next (exec .vxChunk (atPlace 0x01#5))).map
      (fun t => [t.mem.readWord 0x2010, t.mem.readWord 0x2014, t.mem.readWord 0x2018, t.mem.readWord 0x201C]) =
    some [0x00000000#32, 0x3F1B4598#32, 0x3F7FF972#32, 0x00000000#32] := by decide +kernel

/-- The step runs what stands at the place, takes the host's tuple, and resets. -/
theorem test_step : (next (step presented)).map (fun t => (t.busy, t.len, t.start, t.stage)) =
      some (true, 8, none, 0x01#5) ∧
    (next (step (atPlace 0x0F#5))).map State.cur = some 8 ∧
    (next (step { atPlace 0x06#5 with resetLine := true })).map (fun t => (t.busy, t.cur, t.resetLine)) =
      some (false, 0, false) := by decide

/-- Placing the table's words for the host: the very next step runs them. -/
theorem test_withFetchWord :
    next (step (State.reset.withFetchWord 8 0x0F)) = next (exec .vxNext (State.reset.withFetchWord 8 0x0F)) ∧
    next (step (State.reset.withFetchWord 8 0x00)) = next (exec (.vxStart 0 0 0) (State.reset.withFetchWord 8 0x00)) := by
  decide

/-! ### Witnesses: for each statement with hypotheses, a case that meets all of them -/

/-- The run of `atPlace` is admissible. -/
theorem admissible_run (s : State) (hp : s.params.xlen = 64) (hW : s.W = 4) (hr : s.unreadable = [])
    (hw : s.unwritable = []) (ho : ∀ o ∈ s.others, Apart ⟨8, 0x1000, 0x2000⟩ o) : s.Admissible ⟨8, 0x1000, 0x2000⟩ where
  lengthMultipleOfW := by rw [hW]; decide
  basesAligned := by decide
  withinSpace := by rw [hp]; decide
  readable := by simp [hr]
  writable := by simp [hw]
  disjoint := by intro i j hi hj; simp only at *; omega
  noOther := ho

/-- A running state of any place inside the chunk has the invariant. -/
theorem atPlace_inv (code : StageCode) (h : inChunk code) : (atPlace code).Inv where
  memory := by change s2Memory.wf = true; decide
  space := by change ∀ c ∈ s2Memory, c.1 < 2 ^ 64; decide
  lanes := by change 1 ≤ 4; decide
  registers := by change (8 < 2 ^ 64 ∧ 0x1000 < 2 ^ 64 ∧ 0x2000 < 2 ^ 64) ∧ 4 < 2 ^ 64; decide
  tuple := by intro l hl; cases hl
  masks := by change ∀ l ∈ List.replicate 4 Lane.zero, l.m = _ ∨ l.m = _; decide
  elsewhere := List.forall_mem_nil _
  apart := .nil
  running := fun _ =>
    { admitted := admissible_run _ rfl rfl rfl rfl (List.forall_mem_nil _)
      cursor := by change 4 ∣ 4; decide
      bound := by change 4 ≤ 8; decide
      place := .inl ⟨h, by change 4 < 8; decide⟩ }

/-- So has the end of the run. -/
theorem atDone_inv : atDone.Inv where
  memory := (atPlace_inv 0x0F#5 (by unfold inChunk; decide)).memory
  space := (atPlace_inv 0x0F#5 (by unfold inChunk; decide)).space
  lanes := by change 1 ≤ 4; decide
  registers := by change (8 < 2 ^ 64 ∧ 0x1000 < 2 ^ 64 ∧ 0x2000 < 2 ^ 64) ∧ 8 < 2 ^ 64; decide
  tuple := by intro l hl; cases hl
  masks := by change ∀ l ∈ List.replicate 4 Lane.zero, l.m = _ ∨ l.m = _; decide
  elsewhere := List.forall_mem_nil _
  apart := .nil
  running := fun _ =>
    { admitted := admissible_run _ rfl rfl rfl rfl (List.forall_mem_nil _)
      cursor := by change 4 ∣ 8; decide
      bound := by change 8 ≤ 8; decide
      place := .inr ⟨rfl, rfl⟩ }

/-- And so has the idle block with a tuple presented. -/
theorem presented_inv : presented.Inv where
  memory := (atPlace_inv 0x0F#5 (by unfold inChunk; decide)).memory
  space := (atPlace_inv 0x0F#5 (by unfold inChunk; decide)).space
  lanes := by change 1 ≤ 4; decide
  registers := by change (0 < 2 ^ 64 ∧ 0 < 2 ^ 64 ∧ 0 < 2 ^ 64) ∧ 0 < 2 ^ 64; decide
  tuple := by
    intro l hl
    obtain rfl : (⟨8, 0x1000, 0x2000⟩ : Launch) = l := by simpa [presented] using hl
    change 8 < 2 ^ 64 ∧ 0x1000 < 2 ^ 64 ∧ 0x2000 < 2 ^ 64; decide
  masks := by change ∀ l ∈ List.replicate 4 Lane.zero, l.m = _ ∨ l.m = _; decide
  elsewhere := List.forall_mem_nil _
  apart := .nil
  running := by intro h; cases h

/-- The run of `atPlace` beside two invocations on other instances, which share an input buffer; the output of the second
begins where the run's ends. -/
def beside (code : StageCode) : State :=
  { atPlace code with others := [⟨4, 0x3000, 0x4000⟩, ⟨4, 0x3000, 0x2020⟩] }

/-- Buffers that end where the next begins are disjoint. -/
theorem buffersDisjoint_of_le {a n b m : Nat} (h : a + 4 * n ≤ b ∨ b + 4 * m ≤ a) : BuffersDisjoint a n b m := by
  intro i j hi hj
  omega

theorem beside_inv (code : StageCode) (h : inChunk code) : (beside code).Inv where
  memory := (atPlace_inv code h).memory
  space := (atPlace_inv code h).space
  lanes := (atPlace_inv code h).lanes
  registers := (atPlace_inv code h).registers
  tuple := (atPlace_inv code h).tuple
  masks := (atPlace_inv code h).masks
  elsewhere := by
    have ha (o : Launch) (ho : o = ⟨4, 0x3000, 0x4000⟩ ∨ o = ⟨4, 0x3000, 0x2020⟩) :
        (beside code).Fits o ∧ State.Admissible { beside code with others := [] } o := by
      obtain rfl | rfl := ho
      all_goals exact ⟨by change 4 < 2 ^ 64 ∧ _ < 2 ^ 64 ∧ _ < 2 ^ 64; decide, by change 4 ∣ 4; decide, by decide,
        by change _ ≤ 2 ^ 64 ∧ _ ≤ 2 ^ 64; decide, fun _ _ => List.forall_mem_nil _, fun _ _ => List.forall_mem_nil _,
        buffersDisjoint_of_le (by decide), List.forall_mem_nil _⟩
    intro o ho
    exact ha o (by simpa [beside] using ho)
  apart := by
    refine .cons (fun o ho => ?_) (.cons (List.forall_mem_nil _) .nil)
    obtain rfl := List.mem_singleton.1 ho
    exact ⟨buffersDisjoint_of_le (by decide), buffersDisjoint_of_le (by decide), buffersDisjoint_of_le (by decide)⟩
  running := fun hb =>
    { admitted := admissible_run _ rfl rfl rfl rfl fun o ho => by
        have ho : o = ⟨4, 0x3000, 0x4000⟩ ∨ o = ⟨4, 0x3000, 0x2020⟩ := by simpa [beside] using ho
        obtain rfl | rfl := ho
        all_goals exact ⟨buffersDisjoint_of_le (by decide), buffersDisjoint_of_le (by decide),
          buffersDisjoint_of_le (by decide)⟩
      cursor := ((atPlace_inv code h).running hb).cursor
      bound := ((atPlace_inv code h).running hb).bound
      place := ((atPlace_inv code h).running hb).place }

/-- An invocation on another instance begins beside a run where it may, and not where it would write the run's input (P8 of
R162); when it ends its first output is `exp` of its first input; and reset ends it. -/
theorem test_elsewhere :
    ((atPlace 0x06#5).elsewhereStarts ⟨4, 0x1000, 0x2020⟩).map State.others = some [⟨4, 0x1000, 0x2020⟩] ∧
    (atPlace 0x06#5).elsewhereStarts ⟨4, 0x3000, 0x1000⟩ = none ∧
    ((beside 0x06#5).elsewhereEnds ⟨4, 0x3000, 0x2020⟩).map (fun t => (t.others, t.mem.readWord 0x2020)) =
      some ([⟨4, 0x3000, 0x4000⟩], 0x3F800000#32) ∧
    (next (step { beside 0x06#5 with resetLine := true })).map State.others = some [] := by decide +kernel

/-- The host may deny a running invocation no word of its buffers, and what it denies an idle block's next invocation makes
that one break P5 of R162. -/
theorem test_grants :
    (beside 0x06#5).hostGrants [⟨0x101F, 1⟩] [] = none ∧ (beside 0x06#5).hostGrants [] [⟨0x400F, 1⟩] = none ∧
    (presented.hostGrants [⟨0x101F, 1⟩] []).bind (fun t => refusal (step t)) = some (.launch [.accessible]) := by decide

theorem witness_DecodeEncodeRoundTrip :
    Instr.wellFormed 12 (.vxStart (2 ^ 12 - 1) 0 (2 ^ 12 - 1)) = true ∧ Instr.wellFormed 64 .vxChunk = true := by decide

theorem witness_DecodedBytesAreTheEncoding :
    decode 16 [0x00#8, 0xFF#8, 0xFF#8, 0x00#8, 0x10#8, 0x00#8, 0x20#8, 0x99#8] =
      .ok (.vxStart 0xFFFF 0x1000 0x2000, [0x99#8]) ∧ decode 16 [0x13#8, 0x99#8] = .ok (.vxChunk, [0x99#8]) := by decide

theorem witness_UnassignedCodesNameNothing :
    (0x14 ≤ (0x14#8).toNat ∧ (0x14#8).toNat ≤ 0x1F) ∧ (0x14 ≤ (0x1F#8).toNat ∧ (0x1F#8).toNat ≤ 0x1F) ∧
    0x20 ≤ (0x20#8).toNat ∧ 0x20 ≤ (0xFF#8).toNat := by decide

theorem witness_StepRunsTheDecodedOperation :
    (atPlace 0x0F#5).resetLine = false ∧ (atPlace 0x0F#5).fetch = some [0x0F#8] ∧
    decode (atPlace 0x0F#5).params.xlen [0x0F#8] = .ok (.vxNext, []) := by decide

theorem witness_PresentedOperationRuns :
    (presented.resetLine = false ∧ presented.start = some ⟨8, 0x1000, 0x2000⟩ ∧ presented.Fits ⟨8, 0x1000, 0x2000⟩) ∧
    ((atPlace 0x13#5).resetLine = false ∧ (atPlace 0x13#5).start = none ∧ (atPlace 0x13#5).busy = true ∧
      (atPlace 0x13#5).stage = Instr.vxChunk.stageCode ∧ Instr.vxChunk.stageCode ≠ 0x00#5) := by
  unfold State.Fits; decide

theorem witness_IdleInstanceDoesNothing :
    State.reset.resetLine = false ∧ State.reset.start = none ∧ State.reset.busy = false := by decide

/-- Also for the frame of every step that a running instance takes. -/
theorem witness_StepKeepsTheInvariant :
    ((atPlace 0x0F#5).Inv ∧ ∃ t, step (atPlace 0x0F#5) = .next t) ∧ (atDone.Inv ∧ ∃ t, step atDone = .next t) ∧
    (presented.Inv ∧ ∃ t, step presented = .next t) :=
  ⟨⟨atPlace_inv _ (by unfold inChunk; decide), _, rfl⟩, ⟨atDone_inv, _, rfl⟩, presented_inv, _, rfl⟩

/-- The bytes at the ends of what the host may write, grants that deny the bytes around the run's buffers, a tuple that another instance admits beside the run (its buffers
touching the run's), and one that ends. -/
theorem witness_HostMovesKeepTheInvariant :
    (atPlace 0x01#5).Inv ∧ (∃ t, (atPlace 0x01#5).hostWrite 0x0FFF 7#8 = some t) ∧
    (∃ t, (atPlace 0x01#5).hostWrite (2 ^ 64 - 1) 7#8 = some t) ∧
    (∃ t, (atPlace 0x01#5).hostGrants [⟨0x0FFF, 1⟩, ⟨0x1020, 1⟩] [⟨0x1FFF, 1⟩, ⟨0x2020, 1⟩] = some t) ∧
    (∃ t, (atPlace 0x01#5).elsewhereStarts ⟨4, 0x1000, 0x2020⟩ = some t) ∧
    ((beside 0x01#5).Inv ∧ (beside 0x01#5).resetLine = false ∧ ⟨4, 0x3000, 0x2020⟩ ∈ (beside 0x01#5).others) ∧
    ∃ t, (beside 0x01#5).elsewhereEnds ⟨4, 0x3000, 0x2020⟩ = some t :=
  ⟨atPlace_inv _ (by unfold inChunk; decide), ⟨_, rfl⟩, ⟨_, rfl⟩, ⟨_, rfl⟩, ⟨_, rfl⟩,
    ⟨beside_inv _ (by unfold inChunk; decide), rfl, by decide⟩, _, rfl⟩

theorem witness_NeverFaultsNeverStalls : (atPlace 0x0E#5).Inv ∧ atDone.Inv ∧ presented.Inv :=
  ⟨atPlace_inv _ (by unfold inChunk; decide), atDone_inv, presented_inv⟩

theorem witness_StepKeepsTheConfiguration : ∃ t, step presented = .next t := ⟨_, rfl⟩

/-- One state for each of the three clauses. -/
theorem witness_CursorMovesByTheLaneWidth :
    (presented.Inv ∧ presented.resetLine = false ∧ (∃ t, step presented = .next t) ∧ presented.start ≠ none) ∧
    ((atPlace 0x0F#5).Inv ∧ (atPlace 0x0F#5).resetLine = false ∧ (∃ t, step (atPlace 0x0F#5) = .next t) ∧
      (atPlace 0x0F#5).start = none ∧ (atPlace 0x0F#5).busy = true ∧
      ((atPlace 0x0F#5).stage = 0x0F#5 ∨ (atPlace 0x0F#5).stage = 0x13#5)) ∧
    ((atPlace 0x06#5).Inv ∧ (atPlace 0x06#5).resetLine = false ∧ (∃ t, step (atPlace 0x06#5) = .next t) ∧
      (atPlace 0x06#5).start = none ∧
      ¬ ((atPlace 0x06#5).busy = true ∧ ((atPlace 0x06#5).stage = 0x0F#5 ∨ (atPlace 0x06#5).stage = 0x13#5))) :=
  ⟨⟨presented_inv, rfl, ⟨_, rfl⟩, by decide⟩,
   ⟨atPlace_inv _ (by unfold inChunk; decide), rfl, ⟨_, rfl⟩, rfl, rfl, by decide⟩,
   atPlace_inv _ (by unfold inChunk; decide), rfl, ⟨_, rfl⟩, rfl, by decide⟩

/-- The bytes just below and just above the output buffer are outside it; and an idle block has no output buffer. -/
theorem witness_StepWritesOnlyTheOutputBuffer :
    ((atPlace 0x0E#5).Inv ∧ (∃ t, step (atPlace 0x0E#5) = .next t) ∧
      ¬ ((atPlace 0x0E#5).busy = true ∧ (atPlace 0x0E#5).outBase ≤ 0x1FFF ∧
        0x1FFF < (atPlace 0x0E#5).outBase + 4 * (atPlace 0x0E#5).len) ∧
      ¬ ((atPlace 0x0E#5).busy = true ∧ (atPlace 0x0E#5).outBase ≤ 0x2020 ∧
        0x2020 < (atPlace 0x0E#5).outBase + 4 * (atPlace 0x0E#5).len)) ∧
    (presented.Inv ∧ (∃ t, step presented = .next t) ∧ presented.busy = false) ∧
    ((beside 0x0E#5).hostReset.Inv ∧ (beside 0x0E#5).hostReset.resetLine = true ∧
      ¬ (0x2000 ≤ 0x2030 ∧ 0x2030 < 0x2000 + 4 * 8) ∧
      ∀ o ∈ (beside 0x0E#5).hostReset.others, ¬ (o.outBase ≤ 0x2030 ∧ 0x2030 < o.outBase + 4 * o.len)) := by
  have h := beside_inv 0x0E#5 (by unfold inChunk; decide)
  exact ⟨⟨atPlace_inv _ (by unfold inChunk; decide), ⟨_, rfl⟩, by decide, by decide⟩, ⟨presented_inv, ⟨_, rfl⟩, rfl⟩,
    ⟨h.memory, h.space, h.lanes, h.registers, h.tuple, h.masks,
      fun o ho => ⟨(h.elsewhere o ho).1, State.admissible_of_le (h.elsewhere o ho).2 rfl rfl rfl rfl fun _ => id⟩,
      h.apart, fun hb => ⟨State.admissible_of_le (h.running hb).admitted rfl rfl rfl rfl fun _ => id,
        (h.running hb).cursor, (h.running hb).bound, (h.running hb).place⟩⟩, rfl, by decide, by decide⟩

/-- Two states that differ in data, at a place where both step, where both fault and where both are refused. -/
theorem witness_ControlIsIndependentOfData :
    (SameControl (atPlace 0x06#5) { atPlace 0x06#5 with mem := [], draws := 7, original := s2Memory } ∧
      ∃ t, step (atPlace 0x06#5) = .next t) ∧
    (SameControl { atPlace 0x01#5 with inBase := 2 ^ 64 } { atPlace 0x01#5 with inBase := 2 ^ 64, mem := [] } ∧
      ∃ e, step { atPlace 0x01#5 with inBase := 2 ^ 64 } = .fault e) ∧
    (SameControl (atPlace 0x10#5) { atPlace 0x10#5 with mem := [] } ∧ ∃ e, step (atPlace 0x10#5) = .refused e) :=
  ⟨⟨⟨rfl, rfl⟩, _, rfl⟩, ⟨⟨rfl, rfl⟩, _, rfl⟩, ⟨rfl, rfl⟩, _, rfl⟩

theorem witness_BusyFallsOnlyWithDone :
    ∃ t, step atDone = .next t ∧ atDone.busy = true ∧ t.busy = false ∧ atDone.resetLine = false :=
  ⟨_, rfl, rfl, rfl, rfl⟩

/-- Reset is asserted in a chunk (of the elements 3, 4 and 7 the first is stored), right after the chunk's stores, and
while the block is idle; and a byte on either side of the output buffer. -/
theorem witness_ResetAbandonsTheRun :
    (∀ code, inChunk code → (atPlace code).hostReset.Inv ∧ (atPlace code).hostReset.resetLine = true ∧
      (atPlace code).hostReset.busy = true) ∧
    (inChunk 0x0E#5 ∧ (3 < 4 ∨ (0x0E#5 = 0x0F#5 ∧ 3 < 4 + 4)) ∧ ¬ (4 < 4 ∨ (0x0E#5 = 0x0F#5 ∧ 4 < 4 + 4))) ∧
    (inChunk 0x0F#5 ∧ (7 < 4 ∨ (0x0F#5 = 0x0F#5 ∧ 7 < 4 + 4))) ∧
    (presented.hostReset.Inv ∧ presented.hostReset.resetLine = true ∧ presented.hostReset.busy = false) ∧
    (¬ (0x2000 ≤ 0x1FFF ∧ 0x1FFF < 0x2000 + 4 * 8) ∧ ¬ (0x2000 ≤ 0x2020 ∧ 0x2020 < 0x2000 + 4 * 8)) ∧
    ⟨4, 0x3000, 0x2020⟩ ∈ (beside 0x06#5).hostReset.others ∧ 3 < 4 := by
  refine ⟨fun code hc => ?_, by unfold inChunk; decide, by unfold inChunk; decide, ⟨⟨presented_inv.memory,
    presented_inv.space, presented_inv.lanes, presented_inv.registers, presented_inv.tuple, presented_inv.masks,
    List.forall_mem_nil _, .nil, by intro hb; cases hb⟩, rfl, rfl⟩, by decide, by decide⟩
  have h := atPlace_inv code hc
  refine ⟨⟨h.memory, h.space, h.lanes, h.registers, h.tuple, h.masks, List.forall_mem_nil _, .nil, fun hb => ?_⟩, rfl, rfl⟩
  exact ⟨admissible_run _ rfl rfl rfl rfl (List.forall_mem_nil _), (h.running hb).cursor, (h.running hb).bound, (h.running hb).place⟩

theorem witness_PseudoOperationsExpand :
    ((atPlace 0x06#5).resetLine = false ∧ (atPlace 0x06#5).start = none ∧ (atPlace 0x06#5).busy = true ∧
      (atPlace 0x06#5).stage = 0x06#5) ∧ (atPlace 0x02#5).stage = 0x02#5 ∧
    (atPlace 0x01#5).stage = 0x01#5 ∧ (atPlace 0x01#5).cur < (atPlace 0x01#5).len := by decide

/-- One invocation meets the hypotheses of the three statements about whole invocations and of the two about
`VX.START`'s admission. -/
theorem witness_Invocation : presented.Inv ∧ presented.resetLine = false ∧ presented.busy = false ∧
    presented.start = some ⟨8, 0x1000, 0x2000⟩ ∧ presented.Fits ⟨8, 0x1000, 0x2000⟩ ∧
    presented.Admissible ⟨8, 0x1000, 0x2000⟩ :=
  ⟨presented_inv, rfl, rfl, rfl, presented_inv.tuple _ rfl, admissible_run _ rfl rfl rfl rfl (List.forall_mem_nil _)⟩

/-- Equal aligned bases, at the top of the address space too, and a base that is not aligned. -/
theorem witness_EmptyInvocation :
    (∀ l ∈ [(⟨0, 0x1000, 0x1000⟩ : Launch), ⟨0, 0, 2 ^ 64 - 4⟩],
      { State.reset with start := some l }.resetLine = false ∧ { State.reset with start := some l }.busy = false ∧
      { State.reset with start := some l }.Fits l ∧ l.len = 0 ∧ l.inBase % 4 = 0 ∧ l.outBase % 4 = 0) ∧
    (∀ l ∈ [(⟨0, 0x1001, 0x1000⟩ : Launch), ⟨0, 0, 2 ^ 64 - 1⟩],
      { State.reset with start := some l }.Fits l ∧ l.len = 0 ∧ (l.inBase % 4 ≠ 0 ∨ l.outBase % 4 ≠ 0)) := by
  unfold State.Fits; decide

/-- An operand one too large, a busy instance, and one tuple for each of P2 to P6 and P8: at P5 its last input byte alone
is denied, at P6 and P8 it shares one word with the other buffer. -/
theorem witness_StartRefusesExactlyTheViolations :
    ¬ State.reset.Fits ⟨2 ^ 64, 0, 0⟩ ∧
    (atDone.Fits ⟨4, 0, 0x2000⟩ ∧ ¬ (atDone.busy = false ∧ atDone.Admissible ⟨4, 0, 0x2000⟩)) ∧
    (State.reset.Fits ⟨6, 0, 0x2000⟩ ∧ ¬ State.reset.W ∣ 6) ∧
    (State.reset.Fits ⟨4, 2, 0x2000⟩ ∧ ¬ (2 % 4 = 0 ∧ 0x2000 % 4 = 0)) ∧
    (State.reset.Fits ⟨4, 2 ^ 64 - 12, 0⟩ ∧ ¬ (2 ^ 64 - 12 + 4 * 4 ≤ 2 ^ 64 ∧ 0 + 4 * 4 ≤ 2 ^ 64)) ∧
    (State.reset.Fits ⟨4, 0, 0x2000⟩ ∧ ¬ OutsideRegion 0 3 ⟨15, 1⟩) ∧
    (State.reset.Fits ⟨4, 0x1000, 0x100C⟩ ∧ ¬ BuffersDisjoint 0x1000 4 0x100C 4) ∧
    (State.reset.Fits ⟨4, 0, 0x402C⟩ ∧ ¬ Apart ⟨4, 0, 0x402C⟩ ⟨4, 0x3000, 0x4020⟩) := by
  refine ⟨?_, ⟨?_, fun h => ?_⟩, ?_, ?_, ?_, ⟨?_, fun h => ?_⟩, ⟨?_, fun h => ?_⟩, ?_, fun h => ?_⟩
  · unfold State.Fits; decide
  · unfold State.Fits; decide
  · cases h.1
  · unfold State.Fits; decide
  · unfold State.Fits; decide
  · unfold State.Fits; decide
  · unfold State.Fits; decide
  · exact h 3 (by decide) (by decide)
  · unfold State.Fits; decide
  · exact h 12 0 (by decide) (by decide) (by decide)
  · unfold State.Fits; decide
  · exact h.2.2 0 12 (by decide) (by decide) (by decide)

/-- Buffers that share one byte only, exact in-place use, and a buffer that ends one word above the top. -/
theorem witness_OverlapAndWrapAreRefused :
    (∃ a, 0x1000 ≤ a ∧ a < 0x1000 + 4 * 4 ∧ 0x100F ≤ a ∧ a < 0x100F + 4 * 4) ∧ 0 < 4 ∧
    ¬ (2 ^ 64 - 12 + 4 * 4 ≤ 2 ^ 64 ∧ 0 + 4 * 4 ≤ 2 ^ 64) :=
  ⟨⟨0x100F, by decide⟩, by decide, by decide⟩

/-- The chunk may be read and written, where it is the last one below the top of the address space too. -/
theorem witness_AccessibleChunk :
    (∀ i, i < (atPlace 0x01#5).W → (atPlace 0x01#5).MayRead (atPlace 0x01#5).inBase ((atPlace 0x01#5).cur + i)) ∧
    (∀ i, i < (atPlace 0x01#5).W → (atPlace 0x01#5).MayWrite (atPlace 0x01#5).outBase ((atPlace 0x01#5).cur + i)) ∧
    (atPlace 0x01#5).mem.wf = true ∧ (atPlace 0x01#5).busy = true ∧ (atPlace 0x01#5).cur < (atPlace 0x01#5).len ∧
    (atPlace 0x01#5).cur + (atPlace 0x01#5).W < 2 ^ (atPlace 0x01#5).params.xlen ∧
    ∀ i, i < 4 → { atPlace 0x0E#5 with outBase := 2 ^ 64 - 32 }.MayWrite (2 ^ 64 - 32) (4 + i) := by
  unfold State.MayRead State.MayWrite OutsideRegion
  decide

/-- One state for each of the six stops, each stopping at an element where the elements before it may be accessed: the word
just above the top, an odd address, a region that denies one byte. -/
theorem witness_AccessesStopByName :
    (2 < (atPlace 0x01#5).W ∧ ∀ j, j < 2 → { atPlace 0x01#5 with inBase := 2 ^ 64 - 24 }.MayRead (2 ^ 64 - 24) (4 + j)) ∧
    2 ^ 64 < 2 ^ 64 - 24 + 4 * (4 + 2) + 4 ∧
    (0x1001 + 4 * (4 + 0) + 4 ≤ 2 ^ 64 ∧ (0x1001 + 4 * (4 + 0)) % 4 ≠ 0) ∧
    (∀ j, j < 3 → { atPlace 0x01#5 with unreadable := [⟨0x101F, 1⟩] }.MayRead 0x1000 (4 + j)) ∧
    (0x1000 + 4 * (4 + 3) + 4 ≤ 2 ^ 64 ∧ (0x1000 + 4 * (4 + 3)) % 4 = 0 ∧
      ∃ r ∈ [(⟨0x101F, 1⟩ : Region)], ¬ OutsideRegion 0x1000 (4 + 3) r) ∧
    (∀ j, j < 2 → { atPlace 0x0E#5 with outBase := 2 ^ 64 - 24 }.MayWrite (2 ^ 64 - 24) (4 + j)) ∧
    (∀ j, j < 3 → { atPlace 0x0E#5 with unwritable := [⟨0x201F, 1⟩] }.MayWrite 0x2000 (4 + j)) ∧
    (∃ r ∈ [(⟨0x201F, 1⟩ : Region)], ¬ OutsideRegion 0x2000 (4 + 3) r) := by
  unfold State.MayRead State.MayWrite OutsideRegion
  decide

theorem witness_StoreOrderIsImmaterial :
    (atPlace 0x0E#5).mem.wf = true ∧ (atPlace 0x0E#5).chunkWords.reverse.Perm (atPlace 0x0E#5).chunkWords :=
  ⟨by decide, List.reverse_perm _⟩

/-- The greatest sum that fits and the least that does not, at `XLEN = 3`. -/
theorem witness_NextAdvancesTheCursor :
    { atPlace 0x0F#5 with params := ⟨3, .one, none⟩, cur := 3 }.cur + (atPlace 0x0F#5).W < 2 ^ 3 ∧
    2 ^ 3 ≤ { atPlace 0x0F#5 with params := ⟨3, .one, none⟩, cur := 4 }.cur + (atPlace 0x0F#5).W := by decide

theorem witness_DoneEndsTheRun : (atDone.busy = true ∧ atDone.cur = atDone.len) ∧
    ¬ ((atPlace 0x10#5).busy = true ∧ (atPlace 0x10#5).cur = (atPlace 0x10#5).len) ∧
    ¬ (atDone.busy = true ∧ atDone.cur < atDone.len) := by decide

/-- The comparison's two clauses meet between the cutoff and the word below it. -/
theorem witness_DomainClampOperations :
    (isNaN 0xC2AEAC50#32 = false ∧ Below 0xC2AEAC50#32 0xC2AEAC4F#32) ∧ ¬ Below 0xC2AEAC4F#32 0xC2AEAC4F#32 ∧
    isNaN 0xFF800001#32 = true := by
  unfold Below; decide +kernel

theorem witness_LanesAreIndependent :
    (atPlace 0x02#5).params.c1 = { State.reset with lanes := [Lane.zero] }.params.c1 ∧
    (atPlace 0x02#5).draws = { State.reset with lanes := [Lane.zero] }.draws ∧
    (atPlace 0x02#5).lanes[0]? = { State.reset with lanes := [Lane.zero] }.lanes[0]? ∧
    (∃ t, exec .laneExpm (atPlace 0x02#5) = .next t) ∧
    ∃ v, exec .laneExpm { State.reset with lanes := [Lane.zero] } = .next v :=
  ⟨rfl, rfl, rfl, ⟨_, rfl⟩, _, rfl⟩

theorem witness_OnlyLoadsWriteTheInput :
    Instr.vxStore ≠ .vxLoad ∧ Instr.vxStore ≠ .vxChunk ∧ ∃ t, exec .vxStore (atPlace 0x0E#5) = .next t :=
  ⟨by decide, by decide, _, rfl⟩

/-- The greatest finite value, the least subnormal and a negative zero are finite. -/
theorem witness_FmaIsCorrectlyRounded :
    isFinite 0x7F7FFFFF#32 = true ∧ isFinite 0x80000001#32 = true ∧ isFinite 0x80000000#32 = true := by decide

theorem witness_RepresentableResultsAreExact :
    (isFinite 0x3F800000#32 = true ∧ isFinite 0x40000000#32 = true ∧ val 0x40000000#32 ≠ 0 ∧
      val 0x3F800000#32 * val 0x3F800000#32 + val 0x3F800000#32 = val 0x40000000#32) ∧ isNaN 0xFF800000#32 = false := by
  decide +kernel

/-- The corner cases of R91, R92, R136 and R137 with infinities and zeros, word by word as the rules have them. -/
theorem test_corner_cases :
    fma 0x7F800000#32 K_C K_B = some 0x7F800000#32 ∧ fma 0xFF800000#32 K_C K_B = some 0xFF800000#32 ∧
    fsub 0x7F800000#32 K_B = some 0x7F800000#32 ∧ fsub 0xFF800000#32 K_B = some 0xFF800000#32 ∧
    fmul 0x80000000#32 (K_C1 .below) = some 0x80000000#32 ∧ fmul 0x00000000#32 (K_C1 .above) = some 0x00000000#32 ∧
    fma 0x7F800000#32 0x3F800000#32 0x7F800000#32 = some 0x7F800000#32 ∧
    fma 0x7F800000#32 0xBF800000#32 0x7F800000#32 = none := by decide +kernel

/-- Clause by clause: a NaN; infinity and zero; an infinite factor with a finite, an agreeing and an opposing addend (the
last factor being infinite too); an infinite addend; the differences with infinities; the zeros of `fma`, of `fmul` and of
`fsub`; and an exact product and sum below every subnormal that are not zero. -/
theorem witness_SpecialOperands :
    isNaN 0x7F800001#32 = true ∧ (isInf 0xFF800000#32 = true ∧ isZero 0x80000000#32 = true) ∧
    (isInf 0xFF800000#32 = true ∧ isNaN 0x00000001#32 = false ∧ isZero 0x00000001#32 = false ∧
      isFinite 0x7F7FFFFF#32 = true ∧ isInf 0x7F800000#32 = true ∧ isNaN 0x7F800000#32 = false ∧
      isZero 0x7F800000#32 = false ∧ sign 0xFF800000#32 = (sign 0xFF800000#32 ^^ sign 0x00000001#32) ∧
      sign 0x7F800000#32 = !(sign 0xFF800000#32 ^^ sign 0x7F800000#32)) ∧
    (sign 0xFF800000#32 ≠ sign 0x7F800000#32 ∧ sign 0xFF800000#32 = sign 0xFF800000#32) ∧
    (isFinite 0x80000000#32 = true ∧ isFinite 0x00000000#32 = true ∧ isFinite 0xBF800000#32 = true ∧
      val 0x80000000#32 * val 0x3F800000#32 + val 0x80000000#32 = 0 ∧
      (sign 0x80000000#32 ^^ sign 0x3F800000#32) = true ∧ sign 0x80000000#32 = true ∧
      val 0x3F800000#32 * val 0x3F800000#32 + val 0xBF800000#32 = 0 ∧
      val 0x80000000#32 * val 0x3F800001#32 = 0 ∧ val 0x80000000#32 - val 0x00000000#32 = 0) ∧
    val 0x80000001#32 * val 0x00000001#32 + val 0x80000000#32 < 0 ∧ val 0x80000001#32 * val 0x00000001#32 < 0 ∧
    val 0x00000001#32 - val 0x00000002#32 < 0 := by decide +kernel

theorem witness_DrawnNaNsAreTheNaNSet : isNaN 0x7F800001#32 = true ∧ isNaN 0xFFFFFFFF#32 = true := by decide

/-- The neighbours of a table word, and of `K_C`, are other finite values. -/
theorem witness_TableWordsAreNearest :
    (isFinite 0x3F801631#32 = true ∧ val 0x3F801631#32 ≠ val (tableWord 2#11)) ∧
    isFinite 0x4538AA3C#32 = true ∧ val 0x4538AA3C#32 ≠ val K_C := by decide +kernel

theorem witness_TableIsIncreasing : (0#11).toNat < (1#11).toNat ∧ (2046#11).toNat < (2047#11).toNat := by decide

theorem witness_CutoffIsTheLeastNormalInput :
    isFinite 0xC2AEAC4F#32 = true ∧ isFinite 0xC2AEAC50#32 = true ∧ val K_CUT ≤ val 0xC2AEAC4F#32 ∧
    ¬ val K_CUT ≤ val 0xC2AEAC50#32 := by decide +kernel

/-- Both ends of the range, `|x| = 1419.5`, and both ends of the normal domain. -/
theorem witness_InRangeIdentities :
    (isFinite 0xC4B17218#32 = true ∧ -2 ^ 22 ≤ val 0xC4B17218#32 * val K_C ∧
      val 0xC4B17218#32 * val K_C < 2 ^ 22 - 1 / 2) ∧
    (isFinite 0x44B17216#32 = true ∧ -2 ^ 22 ≤ val 0x44B17216#32 * val K_C ∧
      val 0x44B17216#32 * val K_C < 2 ^ 22 - 1 / 2) ∧
    |val 0x44B17000#32| ≤ 1419.5 ∧ |val 0xC4B17000#32| ≤ 1419.5 ∧
    (val K_CUT ≤ val K_CUT ∧ val K_CUT ≤ 0) ∧ val K_CUT ≤ val 0x80000000#32 ∧ val 0x80000000#32 ≤ 0 := by
  decide +kernel

/-- Both ends of the range of `Nint`, and `Nint = -1`. -/
theorem witness_IndexAndQuotientInRange :
    ∀ c ∈ [(0x4B000000#32, (-4194304 : ℤ), (-2048 : ℤ), (0 : ℤ)), (0x4B7FFFFF#32, 4194303, 2047, 2047),
        (0x4B3FFFFF#32, -1, -1, 2047)],
      (c.1.toNat : ℤ) = 0x4B400000 + c.2.1 ∧ -2 ^ 22 ≤ c.2.1 ∧ c.2.1 ≤ 2 ^ 22 - 1 ∧
        c.2.1 = 2048 * c.2.2.1 + c.2.2.2 ∧ 0 ≤ c.2.2.2 ∧ c.2.2.2 ≤ 2047 := by decide

/-- Every exponent word stands for an `e`: those at the ends of the ranges of R127 and R128. -/
theorem witness_Patch :
    ∀ c ∈ [(0xC1000000#32, (-126 : ℤ)), (0x3F800000#32, 127), (0x40000000#32, 128), (0x40800000#32, 129),
        (0x80000000#32, 256), (0xC0000000#32, 384), (0xC0800000#32, -127), (0xC0000000#32, -128),
        (0x40800000#32, -383)],
      c.1.toNat % 2 ^ 23 = 0 ∧ (c.1.toNat : ℤ) = c.2 * 2 ^ 23 % 2 ^ 32 := by decide

theorem witness_BelowTheCutoffIsZero :
    isNaN 0xC2AEAC50#32 = false ∧ Below 0xC2AEAC50#32 0xC2AEAC4F#32 ∧
    ∃ t b, exec .laneExpm { State.reset with lanes := [{ Lane.zero with x := 0xC2AEAC50#32 }] } = .next t ∧
      t.lanes[0]? = some b :=
  ⟨by decide, by unfold Below; decide +kernel, _, _, rfl, rfl⟩

theorem witness_NaNPassesThrough :
    isNaN 0xFF800001#32 = true ∧ ¬ Below 0xC2AEAC4F#32 0xC2AEAC4F#32 ∧
    ∃ t b, exec .laneExpm { State.reset with lanes := [{ Lane.zero with x := 0xFF800001#32 }] } = .next t ∧
      t.lanes[0]? = some b :=
  ⟨by decide, by unfold Below; decide +kernel, _, _, rfl, rfl⟩

/-- `2^-25` itself, and a negative zero. -/
theorem witness_TinyInputsGiveOne :
    (isFinite 0x33000000#32 = true ∧ |val 0x33000000#32| ≤ (2 : ℚ) ^ (-25 : ℤ)) ∧
    isFinite 0x80000000#32 = true ∧ |val 0x80000000#32| ≤ (2 : ℚ) ^ (-25 : ℤ) := by decide +kernel

theorem witness_WordReadAfterWrite : s2Memory.wf = true ∧ (0x1010 + 4 ≤ 0x1014 ∨ 0x1014 + 4 ≤ 0x1010) := by decide

theorem witness_CanonicalMemoriesAreEqual :
    s2Memory.wf = true ∧ (s2Memory.writeByte 5 0#8).wf = true ∧
      ∀ a, s2Memory.readByte a = (s2Memory.writeByte 5 0#8).readByte a := by
  refine ⟨by decide, by decide, fun a => ?_⟩
  have h : s2Memory.writeByte 5 0#8 = s2Memory := by decide
  rw [h]

end Sys2Proof.Tests.Slice0
end

section
/-! SUPPORT and PROOFS. The binary32 primitives of R12. A word is a sign and a magnitude pattern (bits 30..0), the classes
of R62 are ranges of the pattern, and the magnitude grows with the pattern.  Rounding then is a fact about natural numbers:
`unboundedPattern_nearest`, from which the rounding of words, overflow included, and the operations follow. -/

namespace Sys2Proof.Machine.Binary32

/-! ### A word as a sign and a magnitude pattern -/

/-- Bits 30..0 of a word: the exponent field and the fraction as one number. -/
def pattern (w : Word) : Nat := w.toNat % 2 ^ 31

theorem pattern_lt (w : Word) : pattern w < 2 ^ 31 := Nat.mod_lt _ (by decide)

theorem sign_eq (w : Word) : sign w = decide (2 ^ 31 ≤ w.toNat) := BitVec.msb_eq_decide w

theorem expf_eq (w : Word) : expf w = pattern w / 2 ^ 23 := by
  simp only [expf, pattern, BitVec.extractLsb'_toNat, Nat.shiftRight_eq_div_pow]
  omega

theorem frac_eq (w : Word) : frac w = pattern w % 2 ^ 23 := by
  simp only [frac, pattern, BitVec.extractLsb'_toNat, Nat.shiftRight_eq_div_pow]
  omega

theorem toNat_withSign {p : Nat} (hp : p < 2 ^ 31) (b : Bool) :
    (withSign b p).toNat = if b then 2 ^ 31 + p else p := by
  cases b <;> simp only [withSign, BitVec.toNat_ofNat] <;> exact Nat.mod_eq_of_lt (by simp; omega)

theorem sign_withSign {p : Nat} (hp : p < 2 ^ 31) (b : Bool) : sign (withSign b p) = b := by
  rw [sign_eq, toNat_withSign hp]
  cases b <;> simp; omega

theorem pattern_withSign {p : Nat} (hp : p < 2 ^ 31) (b : Bool) : pattern (withSign b p) = p := by
  rw [pattern, toNat_withSign hp]
  cases b <;> simp <;> omega

theorem withSign_sign_pattern (w : Word) : withSign (sign w) (pattern w) = w := by
  apply BitVec.eq_of_toNat_eq
  have hw := w.isLt
  rw [toNat_withSign (pattern_lt w), sign_eq, pattern]
  simp only [decide_eq_true_eq]
  split <;> omega

/-- The last bit of a word is that of its pattern. -/
theorem toNat_mod_two (w : Word) : w.toNat % 2 = pattern w % 2 := by
  unfold pattern; omega

/-! ### The classes of R62 as ranges of the pattern -/

theorem isFinite_iff (w : Word) : isFinite w = true ↔ pattern w < 0x7F800000 := by
  have := pattern_lt w
  simp only [isFinite, expf_eq, bne_iff_ne]
  omega

theorem isInf_iff (w : Word) : isInf w = true ↔ pattern w = 0x7F800000 := by
  have := pattern_lt w
  simp only [isInf, expf_eq, frac_eq, Bool.and_eq_true, beq_iff_eq]
  omega

theorem isNaN_iff (w : Word) : isNaN w = true ↔ 0x7F800000 < pattern w := by
  have := pattern_lt w
  simp only [isNaN, expf_eq, frac_eq, Bool.and_eq_true, beq_iff_eq, bne_iff_ne]
  omega

theorem isZero_iff (w : Word) : isZero w = true ↔ pattern w = 0 := by
  simp only [isZero, expf_eq, frac_eq, Bool.and_eq_true, beq_iff_eq]
  omega

theorem isNaN_of_isFinite {w : Word} (h : isFinite w = true) : isNaN w = false := by
  rw [isFinite_iff] at h
  rw [← Bool.not_eq_true, isNaN_iff]
  omega

theorem isInf_of_isFinite {w : Word} (h : isFinite w = true) : isInf w = false := by
  rw [isFinite_iff] at h
  rw [← Bool.not_eq_true, isInf_iff]
  omega

theorem isNaN_of_isInf {w : Word} (h : isInf w = true) : isNaN w = false := by
  rw [isInf_iff] at h
  rw [← Bool.not_eq_true, isNaN_iff]
  omega

theorem isZero_of_isInf {w : Word} (h : isInf w = true) : isZero w = false := by
  rw [isInf_iff] at h
  rw [← Bool.not_eq_true, isZero_iff]
  omega

theorem isFinite_or_isInf {w : Word} (h : isNaN w = false) : isFinite w = true ∨ isInf w = true := by
  rw [← Bool.not_eq_true, isNaN_iff] at h
  rw [isFinite_iff, isInf_iff]
  omega

theorem isFinite_of_isInf {w : Word} (h : isInf w = true) : isFinite w = false := by
  rw [isInf_iff] at h
  rw [← Bool.not_eq_true, isFinite_iff]
  omega

theorem withSign_sign_of_isZero {w : Word} (h : isZero w = true) : zero (sign w) = w := by
  rw [isZero_iff] at h
  rw [zero, ← h, withSign_sign_pattern]

theorem inf_sign_of_isInf {w : Word} (h : isInf w = true) : inf (sign w) = w := by
  rw [isInf_iff] at h
  rw [inf, ← h, withSign_sign_pattern]

theorem zero_eq (negative : Bool) : zero negative = if negative = true then 0x80000000#32 else 0x00000000#32 := by
  cases negative <;> rfl

/-! ### The magnitude of a pattern -/

/-- `magnitude` as a function of the pattern, continued past bit 30: a magnitude above the overflow threshold, which
`roundPattern` cuts off, has a pattern too. -/
def patternMagnitude (p : Nat) : Nat :=
  if p / 2 ^ 23 = 0 then p % 2 ^ 23 else (2 ^ 23 + p % 2 ^ 23) * 2 ^ (p / 2 ^ 23 - 1)

theorem magnitude_eq (w : Word) : magnitude w = patternMagnitude (pattern w) := by
  rw [magnitude, patternMagnitude, expf_eq, frac_eq]

/-- `r` is a significand at the scale `2^k` times the least subnormal: only the lowest scale has fewer than 24 bits. -/
def IsSignificand (k r : Nat) : Prop := r ≤ 2 ^ 24 ∧ (k = 0 ∨ 2 ^ 23 ≤ r)

/-- A significand's pattern is one sum, also where the significand is `2^24` and carries into the next binade. -/
theorem patternMagnitude_of_isSignificand {k r : Nat} (h : IsSignificand k r) :
    patternMagnitude (k * 2 ^ 23 + r) = r * 2 ^ k := by
  obtain ⟨hr, hk⟩ := h
  unfold patternMagnitude
  obtain hlow | hmid | rfl : r < 2 ^ 23 ∨ 2 ^ 23 ≤ r ∧ r < 2 ^ 24 ∨ r = 2 ^ 24 := by omega
  · obtain rfl : k = 0 := by omega
    rw [if_pos (by omega)]
    omega
  · rw [if_neg (by omega), show (k * 2 ^ 23 + r) / 2 ^ 23 - 1 = k by omega,
      show 2 ^ 23 + (k * 2 ^ 23 + r) % 2 ^ 23 = r by omega]
  · rw [if_neg (by omega), show (k * 2 ^ 23 + 2 ^ 24) / 2 ^ 23 - 1 = k + 1 by omega,
      show 2 ^ 23 + (k * 2 ^ 23 + 2 ^ 24) % 2 ^ 23 = 2 ^ 23 by omega]
    ring

theorem exists_significand (p : Nat) : ∃ k r, p = k * 2 ^ 23 + r ∧ r < 2 ^ 24 ∧ IsSignificand k r :=
  ⟨p / 2 ^ 23 - 1, p - (p / 2 ^ 23 - 1) * 2 ^ 23, by omega, by omega, by omega, by omega⟩

theorem patternMagnitude_strictMono : StrictMono patternMagnitude := by
  refine strictMono_nat_of_lt_succ fun p => ?_
  obtain ⟨k, r, rfl, hlt, hr⟩ := exists_significand p
  have hsucc : IsSignificand k (r + 1) := ⟨by omega, by have := hr.2; omega⟩
  rw [add_assoc, patternMagnitude_of_isSignificand hr, patternMagnitude_of_isSignificand hsucc]
  exact Nat.mul_lt_mul_of_pos_right (Nat.lt_succ_self r) (Nat.two_pow_pos k)

theorem magnitude_eq_zero_iff (w : Word) : magnitude w = 0 ↔ isZero w = true := by
  rw [magnitude_eq, isZero_iff]
  exact patternMagnitude_strictMono.injective.eq_iff (b := 0)

/-- From the binade of a scale on, magnitudes are multiples of the scale. -/
theorem dvd_or_lt_patternMagnitude (k p : Nat) : 2 ^ k ∣ patternMagnitude p ∨ patternMagnitude p < 2 ^ 23 * 2 ^ k := by
  obtain ⟨e, r, rfl, hlt, hr⟩ := exists_significand p
  rw [patternMagnitude_of_isSignificand hr]
  rcases le_or_gt k e with h | h
  · exact .inl (Dvd.dvd.mul_left (pow_dvd_pow 2 h) r)
  · right
    calc r * 2 ^ e < 2 ^ 24 * 2 ^ e := Nat.mul_lt_mul_of_pos_right hlt (Nat.two_pow_pos e)
      _ = 2 ^ 23 * 2 ^ (e + 1) := by ring
      _ ≤ 2 ^ 23 * 2 ^ k := Nat.mul_le_mul_left _ (Nat.pow_le_pow_right (by decide) h)

/-! ### Rounding a magnitude -/

/-- How far `B*q + s`, with a remainder `s`, is from a multiple `j*B`: from the two multiples around it, and from any
other. -/
theorem distance_to_multiple {B q s : ℤ} (hs : 0 ≤ s) (hsB : s < B) (j : ℤ) :
    (j = q ∧ |j * B - (B * q + s)| = s) ∨ (j = q + 1 ∧ |j * B - (B * q + s)| = B - s) ∨
      (j ≠ q ∧ j ≠ q + 1 ∧ B ≤ |j * B - (B * q + s)|) := by
  have hd : j * B - (B * q + s) = (j - q) * B - s := by ring
  rw [hd]
  obtain h | rfl | rfl | h : j < q ∨ j = q ∨ j = q + 1 ∨ q + 1 < j := by omega
  · refine .inr (.inr ⟨by omega, by omega, le_abs.mpr (.inr ?_)⟩)
    nlinarith
  · exact .inl ⟨rfl, by rw [sub_self, zero_mul, zero_sub, abs_neg, abs_of_nonneg hs]⟩
  · exact .inr (.inl ⟨rfl, by rw [add_sub_cancel_left, one_mul, abs_of_pos (by omega)]⟩)
  · refine .inr (.inr ⟨by omega, by omega, le_abs.mpr (.inl ?_)⟩)
    nlinarith

/-- The two branches of `roundShift`: up from above the middle and at a tie from an odd quotient, else down. -/
theorem roundShift_cases (n d : Nat) :
    (roundShift n d = n / 2 ^ d + 1 ∧
      (2 ^ d < 2 * (n % 2 ^ d) ∨ 2 * (n % 2 ^ d) = 2 ^ d ∧ n / 2 ^ d % 2 = 1)) ∨
    (roundShift n d = n / 2 ^ d ∧
      (2 * (n % 2 ^ d) < 2 ^ d ∨ 2 * (n % 2 ^ d) = 2 ^ d ∧ n / 2 ^ d % 2 = 0)) := by
  simp only [roundShift]
  split <;> omega

/-- `roundShift` gives the nearest multiple of `2^d`, at a tie the even one. -/
theorem roundShift_nearest (n d : Nat) (j : ℤ) :
    |(roundShift n d : ℤ) * (2 ^ d : ℕ) - n| ≤ |j * (2 ^ d : ℕ) - n| ∧
      (|(roundShift n d : ℤ) * (2 ^ d : ℕ) - n| = |j * (2 ^ d : ℕ) - n| → j ≠ roundShift n d →
        roundShift n d % 2 = 0) := by
  have hs := Nat.mod_lt n (Nat.two_pow_pos d)
  have hn : ((2 ^ d : ℕ) : ℤ) * (n / 2 ^ d : ℕ) + (n % 2 ^ d : ℕ) = n := by exact_mod_cast Nat.div_add_mod n (2 ^ d)
  have hdist := distance_to_multiple (B := (2 ^ d : ℕ)) (q := (n / 2 ^ d : ℕ)) (s := (n % 2 ^ d : ℕ)) (by omega)
    (by omega)
  rw [hn] at hdist
  have hj := hdist j
  have hr := hdist (roundShift n d)
  have hcases := roundShift_cases n d
  omega

/-- A magnitude has at most 24 bits above the dropped ones, and 24 where more than the lowest 149 are dropped. -/
theorem dropped_cases (n : Nat) :
    n < 2 ^ 24 * 2 ^ dropped n ∧ (dropped n = 149 ∨ 149 < dropped n ∧ 2 ^ 23 * 2 ^ dropped n ≤ n) := by
  unfold dropped
  rw [← pow_add, ← pow_add]
  refine ⟨Nat.lt_log2_self.trans_le (Nat.pow_le_pow_right (by decide) (by omega)), ?_⟩
  rcases le_or_gt (n.log2 - 23) 149 with h | h
  · exact .inl (max_eq_right h)
  · have hn : n ≠ 0 := by rintro rfl; simp at h
    rw [max_eq_left h.le, show 23 + (n.log2 - 23) = n.log2 by omega]
    exact .inr ⟨h, Nat.log2_self_le hn⟩

/-- What `roundShift` keeps of a magnitude is a significand. -/
theorem isSignificand_roundShift (n : Nat) : IsSignificand (dropped n - 149) (roundShift n (dropped n)) := by
  obtain ⟨hlt, hle⟩ := dropped_cases n
  have hr := roundShift_cases n (dropped n)
  have hq : n / 2 ^ dropped n < 2 ^ 24 := Nat.div_lt_of_lt_mul (by rwa [mul_comm])
  refine ⟨by omega, ?_⟩
  rcases hle with h | ⟨-, h⟩
  · exact .inl (by omega)
  · have : 2 ^ 23 ≤ n / 2 ^ dropped n := (Nat.le_div_iff_mul_le (Nat.two_pow_pos _)).mpr h
    omega

/-- The pattern of the rounded magnitude before it is cut off at infinity's. -/
def unboundedPattern (n : Nat) : Nat := (dropped n - 149) * 2 ^ 23 + roundShift n (dropped n)

theorem roundPattern_eq (n : Nat) : roundPattern n = min (unboundedPattern n) 0x7F800000 := rfl

theorem roundPattern_lt (n : Nat) : roundPattern n < 2 ^ 31 := by rw [roundPattern_eq]; omega

/-- The magnitude of a pattern in the units `2^-298` of an exact result. -/
def fineMagnitude (p : Nat) : Nat := patternMagnitude p * 2 ^ 149

theorem fineMagnitude_strictMono : StrictMono fineMagnitude := fun _ _ h =>
  Nat.mul_lt_mul_of_pos_right (patternMagnitude_strictMono h) (Nat.two_pow_pos 149)

theorem fineMagnitude_unboundedPattern (n : Nat) :
    fineMagnitude (unboundedPattern n) = roundShift n (dropped n) * 2 ^ dropped n := by
  have hd : 149 ≤ dropped n := le_max_right _ _
  rw [fineMagnitude, unboundedPattern, patternMagnitude_of_isSignificand (isSignificand_roundShift n), mul_assoc,
    ← pow_add, Nat.sub_add_cancel hd]

/-- A magnitude is a multiple of the unit that `n` is rounded to, or below the binade of `n`. -/
theorem dvd_or_below_binade (n p : Nat) :
    2 ^ dropped n ∣ fineMagnitude p ∨
      fineMagnitude p < 2 ^ 23 * 2 ^ dropped n ∧ 2 ^ 23 * 2 ^ dropped n ≤ n := by
  unfold fineMagnitude
  obtain ⟨-, hd | ⟨hd, hle⟩⟩ := dropped_cases n
  · rw [hd]
    exact .inl (Nat.dvd_mul_left _ _)
  have hpow : 2 ^ dropped n = 2 ^ (dropped n - 149) * 2 ^ 149 := by rw [← pow_add, Nat.sub_add_cancel hd.le]
  refine (dvd_or_lt_patternMagnitude (dropped n - 149) p).imp (fun h => ?_) fun h => ⟨?_, hle⟩
  · rw [hpow]
    exact Nat.mul_dvd_mul_right h _
  · rw [hpow, ← mul_assoc]
    exact Nat.mul_lt_mul_of_pos_right h (Nat.two_pow_pos _)

/-- No magnitude of the format, infinity's and those past it included, is nearer to `n` units of `2^-298` than that of
`unboundedPattern n`, and at a tie its last bit is 0. -/
theorem unboundedPattern_nearest (n p : Nat) :
    |(fineMagnitude (unboundedPattern n) : ℤ) - n| ≤ |(fineMagnitude p : ℤ) - n| ∧
      (|(fineMagnitude (unboundedPattern n) : ℤ) - n| = |(fineMagnitude p : ℤ) - n| →
        p ≠ unboundedPattern n → unboundedPattern n % 2 = 0) := by
  have hparity : unboundedPattern n % 2 = roundShift n (dropped n) % 2 := by
    unfold unboundedPattern; omega
  rcases dvd_or_below_binade n p with ⟨j, hj⟩ | ⟨hlt, hle⟩
  · have hnear := roundShift_nearest n (dropped n) j
    rw [hparity, fineMagnitude_unboundedPattern, hj, mul_comm (2 ^ dropped n) j, Nat.cast_mul, Nat.cast_mul]
    refine ⟨hnear.1, fun heq hne => hnear.2 heq fun hjr => hne (fineMagnitude_strictMono.injective ?_)⟩
    rw [hj, fineMagnitude_unboundedPattern, mul_comm, Nat.cast_injective hjr]
  · -- the first magnitude of the binade of `n` lies between
    have hnear := (roundShift_nearest n (dropped n) (2 ^ 23)).1
    have hcast := fineMagnitude_unboundedPattern n
    rw [← Nat.cast_mul, ← hcast] at hnear
    simp only [Int.abs_eq_natAbs] at hnear ⊢
    omega

/-- The first magnitude that overflows, in units of `2^-298`: half an ulp above the greatest finite value. -/
def overflowThreshold : Nat := (2 ^ 128 - 2 ^ 103) * (2 ^ 149 * 2 ^ 149)

theorem fineMagnitude_greatest_add_inf :
    fineMagnitude 0x7F7FFFFF + fineMagnitude 0x7F800000 = 2 * overflowThreshold := by decide +kernel

/-- The threshold is half way between the greatest finite magnitude, whose last bit is 1, and infinity's: below it the
greatest finite magnitude is nearer than infinity's, and a tie there cannot go to an odd pattern. -/
theorem unboundedPattern_lt_inf_iff (n : Nat) : unboundedPattern n < 0x7F800000 ↔ n < overflowThreshold := by
  have hmiddle := fineMagnitude_greatest_add_inf
  have hlt := fineMagnitude_strictMono (show 0x7F7FFFFF < 0x7F800000 by decide)
  have hmono := fineMagnitude_strictMono.monotone
  have hgreatest := unboundedPattern_nearest n 0x7F7FFFFF
  have hinf := unboundedPattern_nearest n 0x7F800000
  simp only [Int.abs_eq_natAbs] at hgreatest hinf
  rcases lt_or_ge (unboundedPattern n) 0x7F800000 with h | h
  · have hle := hmono (show unboundedPattern n ≤ 0x7F7FFFFF by omega)
    have heq := fineMagnitude_strictMono.injective.eq_iff (a := unboundedPattern n) (b := 0x7F7FFFFF)
    omega
  · have hle := hmono h
    omega

/-! ### Words as integers in units of the least subnormal -/

theorem natAbs_units (w : Word) : (units w).natAbs = magnitude w := by
  unfold units
  split <;> simp

theorem sign_iff_units_neg {w : Word} (h : units w ≠ 0) : sign w = true ↔ units w < 0 := by
  unfold units at h ⊢
  cases hs : sign w <;> simp [hs] at h ⊢
  omega

/-- A value other than zero has one word. -/
theorem eq_of_units_eq {a b : Word} (h : units a = units b) (hne : units a ≠ 0) : a = b := by
  have hmag : magnitude a = magnitude b := by rw [← natAbs_units, h, natAbs_units]
  have hpat : pattern a = pattern b := by
    rw [magnitude_eq, magnitude_eq] at hmag
    exact patternMagnitude_strictMono.injective hmag
  have hsign : sign a = sign b := by
    rw [Bool.eq_iff_iff, sign_iff_units_neg hne, sign_iff_units_neg (h ▸ hne), h]
  rw [← withSign_sign_pattern a, hsign, hpat, withSign_sign_pattern]

/-- The weight of a normal word's last bit (R62) as a multiple of the least subnormal. -/
theorem two_zpow_sub_150 {e : Nat} (h : e ≠ 0) : (2 : ℚ) ^ ((e : ℤ) - 150) = 2 ^ (e - 1) / 2 ^ 149 := by
  rw [eq_div_iff (by positivity), ← zpow_natCast, ← zpow_natCast, ← zpow_add₀ (by norm_num)]
  congr 1
  omega

theorem val_eq_units (w : Word) : val w = units w / 2 ^ 149 := by
  unfold val units magnitude
  by_cases h : expf w = 0
  · rw [if_pos h, if_pos h, show (2 : ℚ) ^ (-149 : ℤ) = 1 / 2 ^ 149 by norm_num]
    split <;> push_cast <;> ring
  · rw [if_neg h, if_neg h, two_zpow_sub_150 h]
    split <;> push_cast <;> ring

theorem val_lt_val_iff (a b : Word) : val a < val b ↔ units a < units b := by
  rw [val_eq_units, val_eq_units, div_lt_div_iff_of_pos_right (by positivity), Int.cast_lt]

theorem units_eq_zero_iff (w : Word) : units w = 0 ↔ isZero w = true := by
  rw [← magnitude_eq_zero_iff, ← natAbs_units, Int.natAbs_eq_zero]

/-! ### The order of values -/

theorem natAbs_units_lt_inf {w : Word} (h : isFinite w = true) : (units w).natAbs < patternMagnitude 0x7F800000 := by
  rw [natAbs_units, magnitude_eq]
  exact patternMagnitude_strictMono ((isFinite_iff w).mp h)

theorem units_of_isInf {w : Word} (h : isInf w = true) :
    units w = if sign w then -(patternMagnitude 0x7F800000 : ℤ) else patternMagnitude 0x7F800000 := by
  rw [units, magnitude_eq, (isInf_iff w).mp h]

/-- `units` puts an infinity beyond every finite value, so its order is that of the values and the infinities. -/
theorem below_iff {a b : Word} (ha : isNaN a = false) (hb : isNaN b = false) : Below a b ↔ units a < units b := by
  unfold Below
  rw [val_lt_val_iff]
  rcases isFinite_or_isInf ha with fa | ia <;> rcases isFinite_or_isInf hb with fb | ib
  · simp [isInf_of_isFinite, fa, fb]
  · have hlt := natAbs_units_lt_inf fa
    have hb := units_of_isInf ib
    cases hs : sign b <;> simp [hs, isInf_of_isFinite fa, isFinite_of_isInf ib, ib] at hb ⊢ <;> omega
  · have hlt := natAbs_units_lt_inf fb
    have ha := units_of_isInf ia
    cases hs : sign a <;> simp [hs, isInf_of_isFinite fb, isFinite_of_isInf ia, ia] at ha ⊢ <;> omega
  · have hpos : (0 : ℤ) < patternMagnitude 0x7F800000 := by decide +kernel
    rw [units_of_isInf ia, units_of_isInf ib]
    cases sign a <;> cases sign b
    all_goals simp [isFinite_of_isInf ia, ia, ib]
    omega

/-! ### Exact results in units of `2^-298` -/

/-- The value of a word in the units `2^-298` of an exact result. -/
def fineUnits (w : Word) : ℤ := units w * 2 ^ 149

theorem fineUnits_eq (w : Word) :
    fineUnits w = if sign w then -(fineMagnitude (pattern w) : ℤ) else fineMagnitude (pattern w) := by
  rw [fineUnits, units, magnitude_eq, fineMagnitude]
  split <;> push_cast <;> ring

/-- How many of the units `2^-298` make one. -/
def fineScale : ℚ := 2 ^ 149 * 2 ^ 149

theorem fineScale_pos : 0 < fineScale := by unfold fineScale; positivity

theorem val_eq_fineUnits (w : Word) : val w = fineUnits w / fineScale := by
  rw [val_eq_units, fineUnits, fineScale, Int.cast_mul, Int.cast_pow, Int.cast_ofNat,
    mul_div_mul_right _ _ (by positivity)]

theorem natAbs_fineUnits (w : Word) : (fineUnits w).natAbs = fineMagnitude (pattern w) := by
  rw [fineUnits_eq]
  split <;> simp

theorem cast_div_fineScale_inj {v w : ℤ} : (v : ℚ) / fineScale = w / fineScale ↔ v = w := by
  rw [div_left_inj' fineScale_pos.ne', Int.cast_inj]

theorem cast_div_fineScale_eq_zero {v : ℤ} : (v : ℚ) / fineScale = 0 ↔ v = 0 := by
  rw [div_eq_zero_iff, or_iff_left fineScale_pos.ne', Int.cast_eq_zero]

theorem cast_div_fineScale_neg {v : ℤ} : (v : ℚ) / fineScale < 0 ↔ v < 0 := by
  rw [div_lt_iff₀ fineScale_pos, zero_mul, Int.cast_lt_zero]

theorem abs_val_sub_eq (w : Word) (v : ℤ) : |val w - v / fineScale| = (|fineUnits w - v| : ℤ) / fineScale := by
  rw [val_eq_fineUnits, ← sub_div, abs_div, abs_of_pos fineScale_pos]
  push_cast
  rfl

theorem val_mul_val (a b : Word) : val a * val b = (units a * units b : ℤ) / fineScale := by
  rw [val_eq_units, val_eq_units, div_mul_div_comm, fineScale, Int.cast_mul]

theorem val_mul_add_val (a b c : Word) :
    val a * val b + val c = (units a * units b + fineUnits c : ℤ) / fineScale := by
  rw [val_mul_val, val_eq_fineUnits, ← add_div, ← Int.cast_add]

theorem val_sub_val (a b : Word) : val a - val b = (fineUnits a - fineUnits b : ℤ) / fineScale := by
  rw [val_eq_fineUnits, val_eq_fineUnits, ← sub_div, ← Int.cast_sub]

/-! ### `round` gives the nearest word -/

/-- The sign of a result: that of the exact value, and for an exact zero the given one. -/
def resultSign (zeroSign : Bool) (v : ℤ) : Bool := if v = 0 then zeroSign else decide (v < 0)

/-- An exact zero is no special case of rounding but for its sign. -/
theorem round_eq_withSign (zeroSign : Bool) (v : ℤ) :
    round zeroSign v = withSign (resultSign zeroSign v) (roundPattern v.natAbs) := by
  unfold round resultSign
  split
  · subst v; rfl
  · rfl

theorem sign_round (zeroSign : Bool) (v : ℤ) : sign (round zeroSign v) = resultSign zeroSign v := by
  rw [round_eq_withSign, sign_withSign (roundPattern_lt _)]

theorem pattern_round (zeroSign : Bool) (v : ℤ) : pattern (round zeroSign v) = roundPattern v.natAbs := by
  rw [round_eq_withSign, pattern_withSign (roundPattern_lt _)]

theorem overflowThreshold_pos : 0 < overflowThreshold := by unfold overflowThreshold; norm_num

theorem roundPattern_of_lt {n : Nat} (h : n < overflowThreshold) :
    roundPattern n = unboundedPattern n ∧ unboundedPattern n < 0x7F800000 := by
  have := (unboundedPattern_lt_inf_iff n).mpr h
  rw [roundPattern_eq]
  omega

theorem isFinite_round (zeroSign : Bool) {v : ℤ} (h : v.natAbs < overflowThreshold) :
    isFinite (round zeroSign v) = true := by
  obtain ⟨heq, hlt⟩ := roundPattern_of_lt h
  rwa [isFinite_iff, pattern_round, heq]

theorem round_of_overflow (zeroSign : Bool) {v : ℤ} (h : overflowThreshold ≤ v.natAbs) :
    round zeroSign v = inf (decide (v < 0)) := by
  have hv : v ≠ 0 := by have := overflowThreshold_pos; omega
  have hpat : roundPattern v.natAbs = 0x7F800000 := by
    have := (unboundedPattern_lt_inf_iff v.natAbs).not.mpr (by omega)
    rw [roundPattern_eq]
    omega
  rw [round_eq_withSign, hpat, resultSign, if_neg hv, inf]

theorem round_zero (zeroSign : Bool) : round zeroSign 0 = zero zeroSign := rfl

/-- How far a word is from an exact result: on the result's side of zero as far as the magnitudes are, else the way leads
through zero. -/
theorem abs_fineUnits_sub (zeroSign : Bool) (v : ℤ) (u : Word) :
    |fineUnits u - v| =
      if sign u = resultSign zeroSign v then |(fineMagnitude (pattern u) : ℤ) - v.natAbs|
      else fineMagnitude (pattern u) + v.natAbs := by
  rw [fineUnits_eq, resultSign]
  simp only [Int.abs_eq_natAbs]
  rcases lt_trichotomy v 0 with hv | rfl | hv
  · rw [if_neg hv.ne, decide_eq_true hv]
    cases sign u <;> simp only [if_true, if_false, Bool.false_eq_true] <;> omega
  · cases sign u <;> simp
  · rw [if_neg hv.ne', decide_eq_false hv.not_gt]
    cases sign u <;> simp only [if_true, if_false, Bool.false_eq_true, Bool.true_eq_false] <;> omega

/-- No word is nearer to `v` units of `2^-298` than `round` below the overflow threshold, and at a tie its last bit is 0:
on the same side of zero by `unboundedPattern_nearest`, and no word of the other side is nearer than zero is. -/
theorem fineUnits_round_nearest (zeroSign : Bool) {v : ℤ} (h : v.natAbs < overflowThreshold) (u : Word) :
    |fineUnits (round zeroSign v) - v| ≤ |fineUnits u - v| ∧
      (|fineUnits (round zeroSign v) - v| = |fineUnits u - v| → fineUnits u ≠ fineUnits (round zeroSign v) →
        (round zeroSign v).toNat % 2 = 0) := by
  have hpat : pattern (round zeroSign v) = unboundedPattern v.natAbs := by
    rw [pattern_round, (roundPattern_of_lt h).1]
  obtain ⟨hle, htie⟩ := unboundedPattern_nearest v.natAbs (pattern u)
  have hzero := (unboundedPattern_nearest v.natAbs 0).1
  rw [show fineMagnitude 0 = 0 from rfl, Nat.cast_zero, zero_sub, abs_neg, Nat.abs_cast] at hzero
  rw [abs_fineUnits_sub zeroSign v u, abs_fineUnits_sub zeroSign v (round zeroSign v), if_pos (sign_round _ _),
    toNat_mod_two, hpat]
  split
  case isTrue hs =>
    refine ⟨hle, fun heq hne => htie heq fun hp => hne ?_⟩
    rw [fineUnits_eq, fineUnits_eq, hs, sign_round, hp, hpat]
  case isFalse hs =>
    refine ⟨by omega, fun heq hne => ?_⟩
    have hu : fineMagnitude (pattern u) = 0 := by omega
    rw [hu, Nat.cast_zero, zero_sub, abs_neg, Nat.abs_cast] at htie
    refine htie (by omega) fun hp => hne ?_
    rw [fineUnits_eq, fineUnits_eq, hpat, ← hp, hu]
    simp

theorem abs_lt_overflow_iff (v : ℤ) :
    |(v : ℚ) / fineScale| < 2 ^ 128 - 2 ^ 103 ↔ v.natAbs < overflowThreshold := by
  rw [abs_div, abs_of_pos fineScale_pos, div_lt_iff₀ fineScale_pos, ← Int.cast_abs, Int.abs_eq_natAbs,
    ← Nat.cast_lt (α := ℚ), overflowThreshold, fineScale]
  push_cast [show 2 ^ 103 ≤ 2 ^ 128 by norm_num]
  norm_num

/-- `round` is `RN` of R12 with its overflow to infinity. -/
theorem isRounded_round (zeroSign : Bool) (v : ℤ) : IsRounded (v / fineScale) (round zeroSign v) := by
  unfold IsRounded
  split
  case isTrue h =>
    rw [abs_lt_overflow_iff] at h
    refine ⟨isFinite_round zeroSign h, fun u _ => ?_⟩
    obtain ⟨hle, htie⟩ := fineUnits_round_nearest zeroSign h u
    rw [abs_val_sub_eq, abs_val_sub_eq, div_le_div_iff_of_pos_right fineScale_pos, Int.cast_le, cast_div_fineScale_inj]
    refine ⟨hle, fun heq hne => htie heq fun hu => hne ?_⟩
    rw [val_eq_fineUnits, val_eq_fineUnits, hu]
  case isFalse h =>
    rw [abs_lt_overflow_iff, not_lt] at h
    rw [round_of_overflow zeroSign h]
    simp only [cast_div_fineScale_neg]

theorem natAbs_fineUnits_lt {w : Word} (h : isFinite w = true) : (fineUnits w).natAbs < overflowThreshold := by
  have hlt := fineMagnitude_strictMono (show 0x7F7FFFFF < 0x7F800000 by decide)
  have hle := fineMagnitude_strictMono.monotone (show pattern w ≤ 0x7F7FFFFF by rw [isFinite_iff] at h; omega)
  have := fineMagnitude_greatest_add_inf
  rw [natAbs_fineUnits]
  omega

/-- Rounding keeps a value of the format, zero apart, whose sign is another matter. -/
theorem round_fineUnits (zeroSign : Bool) {w : Word} (h : isFinite w = true) (hne : fineUnits w ≠ 0) :
    round zeroSign (fineUnits w) = w := by
  have hnear := (fineUnits_round_nearest zeroSign (natAbs_fineUnits_lt h) w).1
  rw [sub_self, abs_zero, abs_nonpos_iff, sub_eq_zero] at hnear
  have hunits : units (round zeroSign (fineUnits w)) = units w := mul_right_cancel₀ (by norm_num) hnear
  refine eq_of_units_eq hunits fun h0 => hne ?_
  rw [fineUnits, ← hunits, h0, zero_mul]

/-! ### The operations on finite operands -/

theorem fma_of_isFinite {a b c : Word} (ha : isFinite a = true) (hb : isFinite b = true) (hc : isFinite c = true) :
    fma a b c = some (round ((sign a ^^ sign b) && sign c) (units a * units b + fineUnits c)) := by
  simp [fma, fineUnits, isNaN_of_isFinite, isInf_of_isFinite, ha, hb, hc]

theorem fmul_of_isFinite {a b : Word} (ha : isFinite a = true) (hb : isFinite b = true) :
    fmul a b = some (round (sign a ^^ sign b) (units a * units b)) := by
  simp [fmul, isNaN_of_isFinite, isInf_of_isFinite, ha, hb]

theorem fsub_of_isFinite {a b : Word} (ha : isFinite a = true) (hb : isFinite b = true) :
    fsub a b = some (round (sign a && !sign b) (fineUnits a - fineUnits b)) := by
  simp [fsub, fineUnits, sub_mul, isNaN_of_isFinite, isInf_of_isFinite, ha, hb]

/-! ### The operations on NaNs and infinities -/

theorem fmul_comm (a b : Word) : fmul a b = fmul b a := by
  simp only [fmul, Bool.or_comm (isNaN a), Bool.or_comm (isInf a), Bool.or_comm (isZero a), Bool.xor_comm (sign a),
    mul_comm (units a)]

theorem fma_comm (a b c : Word) : fma a b c = fma b a c := by
  simp only [fma, Bool.or_comm (isNaN a), Bool.or_comm (isInf a), Bool.or_comm (isZero a), Bool.xor_comm (sign a),
    mul_comm (units a)]

theorem fma_of_isNaN {a b c : Word} (h : isNaN a = true ∨ isNaN b = true ∨ isNaN c = true) : fma a b c = none := by
  rcases h with h | h | h <;> simp [fma, h]

theorem fmul_of_isNaN {a b : Word} (h : isNaN a = true ∨ isNaN b = true) : fmul a b = none := by
  rcases h with h | h <;> simp [fmul, h]

theorem fsub_of_isNaN {a b : Word} (h : isNaN a = true ∨ isNaN b = true) : fsub a b = none := by
  rcases h with h | h <;> simp [fsub, h]

theorem fma_of_isInf_of_isZero {a b : Word} (ha : isInf a = true) (hb : isZero b = true) (c : Word) :
    fma a b c = none := by
  simp [fma, ha, hb]

theorem fmul_of_isInf_of_isZero {a b : Word} (ha : isInf a = true) (hb : isZero b = true) : fmul a b = none := by
  simp [fmul, ha, hb]

theorem fmul_of_isInf {a b : Word} (ha : isInf a = true) (hb : isNaN b = false) (hz : isZero b = false) :
    fmul a b = some (inf (sign a ^^ sign b)) := by
  simp [fmul, ha, hb, hz, isNaN_of_isInf, isZero_of_isInf]

/-- An infinite product, and an addend that is not the infinity of the other sign. -/
theorem fma_of_isInf {a b c : Word} (ha : isInf a = true) (hb : isNaN b = false) (hz : isZero b = false)
    (hc : isFinite c = true ∨ isInf c = true ∧ sign c = (sign a ^^ sign b)) :
    fma a b c = some (inf (sign a ^^ sign b)) := by
  rcases hc with hc | ⟨hc, hs⟩
  · simp [fma, isNaN_of_isInf, isZero_of_isInf, isNaN_of_isFinite, isInf_of_isFinite, ha, hb, hz, hc]
  · simp [fma, isNaN_of_isInf, isZero_of_isInf, ha, hb, hz, hc, hs]

/-- An infinite product, and the infinity of the other sign. -/
theorem fma_of_isInf_of_opposite {a b c : Word} (ha : isInf a = true) (hc : isInf c = true)
    (hs : sign c = !(sign a ^^ sign b)) : fma a b c = none := by
  simp [fma, ha, hc, hs]

theorem fma_of_isInf_addend {a b c : Word} (ha : isFinite a = true) (hb : isFinite b = true) (hc : isInf c = true) :
    fma a b c = some c := by
  simp [fma, isNaN_of_isFinite, isInf_of_isFinite, isNaN_of_isInf, ha, hb, hc]

theorem fsub_of_isInf_left {a b : Word} (ha : isInf a = true) (hb : isFinite b = true) : fsub a b = some a := by
  simp [fsub, isNaN_of_isFinite, isInf_of_isFinite, isNaN_of_isInf, ha, hb]

theorem fsub_of_isInf_right {a b : Word} (ha : isFinite a = true) (hb : isInf b = true) :
    fsub a b = some (inf (!sign b)) := by
  simp [fsub, isNaN_of_isFinite, isInf_of_isFinite, isNaN_of_isInf, ha, hb]

/-- The difference of two infinities: the first where the signs differ, none where they agree. -/
theorem fsub_of_isInf {a b : Word} (ha : isInf a = true) (hb : isInf b = true) :
    fsub a b = if sign a = sign b then none else some a := by
  simp [fsub, isNaN_of_isInf, ha, hb]

/-! ### Multiplying by 1, and the sign of a result -/

/-- Multiplying by 1 changes no word that is no NaN. -/
theorem fmul_one {t : Word} (ht : isNaN t = false) : fmul t 0x3F800000#32 = some t := by
  have hone : units 0x3F800000#32 = 2 ^ 149 := by decide +kernel
  have hsign : (sign t ^^ sign 0x3F800000#32) = sign t := by
    rw [show sign 0x3F800000#32 = false from rfl, Bool.xor_false]
  rcases isFinite_or_isInf ht with hfin | hinf
  · rw [fmul_of_isFinite hfin (by decide), hone, hsign]
    by_cases hz : units t = 0
    · rw [hz, zero_mul, round_zero, withSign_sign_of_isZero ((units_eq_zero_iff t).mp hz)]
    · exact congrArg some (round_fineUnits _ hfin (mul_ne_zero hz (by norm_num)))
  · rw [fmul_of_isInf hinf (by decide) (by decide), hsign, inf_sign_of_isInf hinf]

/-- The sign of what an operation rounds: that of an exact zero as the operation has it, else that of the exact value. -/
theorem sign_of_rounded {r : Option Word} {zeroSign : Bool} {v : ℤ} (h : r = some (round zeroSign v)) :
    ((v : ℚ) / fineScale = 0 → r = some (if zeroSign = true then 0x80000000#32 else 0x00000000#32)) ∧
      ((v : ℚ) / fineScale ≠ 0 → ∀ w, r = some w → (sign w = true ↔ (v : ℚ) / fineScale < 0)) := by
  subst h
  rw [cast_div_fineScale_neg, Ne, cast_div_fineScale_eq_zero]
  constructor
  · rintro rfl
    rw [round_zero, zero_eq]
  · rintro hv w ⟨⟩
    rw [sign_round, resultSign, if_neg hv, decide_eq_true_eq]

/-! ### The obligations -/

/-- Settles O41: `fma` is one `round`, of the exact value. -/
theorem fmaIsCorrectlyRounded : Obligations.FmaIsCorrectlyRounded := by
  intro a b c ha hb hc
  rw [val_mul_add_val]
  exact ⟨_, fma_of_isFinite ha hb hc, isRounded_round _ _⟩

/-- Settles O42: `fmul` and `fsub` are one `round` each, of the exact value. -/
theorem productAndDifferenceAreCorrectlyRounded : Obligations.ProductAndDifferenceAreCorrectlyRounded := by
  intro a b ha hb
  rw [val_mul_val, val_sub_val]
  exact ⟨⟨_, fmul_of_isFinite ha hb, isRounded_round _ _⟩, _, fsub_of_isFinite ha hb, isRounded_round _ _⟩

/-- Settles O43: no word but the value's own is as near as the value itself. -/
theorem representableResultsAreExact : Obligations.RepresentableResultsAreExact := by
  refine ⟨fun a b c w ha hb hc hw hne hexact => ?_, fun t => fmul_one⟩
  rw [val_mul_add_val, val_eq_fineUnits, cast_div_fineScale_inj] at hexact
  rw [fma_of_isFinite ha hb hc, hexact, round_fineUnits _ hw]
  rintro h0
  rw [val_eq_fineUnits, h0, Int.cast_zero, zero_div] at hne
  exact hne rfl

/-- Settles O44: `flt` compares `units`, which order the infinities too. -/
theorem comparisonIsByValue : Obligations.ComparisonIsByValue := by
  intro a b
  simp only [flt, Bool.and_eq_true, Bool.not_eq_true', decide_eq_true_eq, and_assoc]
  exact and_congr_right fun ha => and_congr_right fun hb => (below_iff ha hb).symm

/-- Settles O45, clause by clause from the rules of the operations on each class of operands. -/
theorem specialOperands : Obligations.SpecialOperands := by
  refine ⟨fun _ _ _ => fma_of_isNaN, fun _ _ h => ⟨fmul_of_isNaN h, fsub_of_isNaN h⟩, ?infTimesZero, ?infProduct,
    fun _ _ _ => fma_of_isInf_addend, ?infDifference, ?fmaSign, ?productSigns, ?selfDifference⟩
  case infTimesZero =>
    intro a b c ha hb
    rw [fma_comm b, fmul_comm b, fma_of_isInf_of_isZero ha hb, fmul_of_isInf_of_isZero ha hb]
    exact ⟨rfl, rfl, rfl, rfl⟩
  case infProduct =>
    intro a b c ha hb hz
    rw [fma_comm b, fmul_comm b, fmul_of_isInf ha hb hz, and_self, and_self, and_self]
    exact ⟨fma_of_isInf ha hb hz, fma_of_isInf_of_opposite ha, rfl⟩
  case infDifference =>
    intro a b ha
    refine ⟨fun hb => ⟨fsub_of_isInf_left ha hb, fsub_of_isInf_right hb ha⟩, fun hb hs => ?_, fun hb hs => ?_⟩
    · rw [fsub_of_isInf ha hb, if_neg hs]
    · rw [fsub_of_isInf ha hb, if_pos hs]
  case fmaSign =>
    intro a b c ha hb hc
    rw [val_mul_add_val]
    simpa only [Bool.and_eq_true] using sign_of_rounded (fma_of_isFinite ha hb hc)
  case productSigns =>
    intro a b ha hb
    rw [val_mul_val, val_sub_val]
    have hmul := sign_of_rounded (fmul_of_isFinite ha hb)
    have hsub := sign_of_rounded (fsub_of_isFinite ha hb)
    simp only [Bool.and_eq_true, Bool.not_eq_true'] at hsub
    exact ⟨hmul.1, hmul.2, hsub⟩
  case selfDifference =>
    intro a ha
    rw [fsub_of_isFinite ha ha, sub_self, Bool.and_not_self, round_zero, zero_eq]
    rfl

end Sys2Proof.Machine.Binary32
end

section
/-! SUPPORT and PROOFS. What an operation does, said once (`Effect`): the lane operations work inside the lanes and go on
to another place of the chunk, and every other operation has its next state.  What a step does (`step_effect`),
the configuration, the cursor and the invariant are read off these cases. -/

namespace Sys2Proof.Machine

/-! ### Masks, and what a lane operation keeps of a lane -/

/-- The two words a mask can be (R66). -/
def IsMask (w : Word) : Prop := w = 0x00000000#32 ∨ w = 0xFFFFFFFF#32

theorem isMask_maskOf (below : Bool) : IsMask (maskOf below) := by
  cases below
  · exact .inl rfl
  · exact .inr rfl

theorem isMask_of_mem_replicate {n : Nat} {l : Lane} (h : l ∈ List.replicate n Lane.zero) : IsMask l.m :=
  List.eq_of_mem_replicate h ▸ .inl rfl

/-- What every lane operation keeps of a lane: the input (R156), and that the mask is one. -/
structure Lane.Kept (a b : Lane) : Prop where
  input : b.x = a.x
  mask : IsMask a.m → IsMask b.m

theorem Lane.Kept.of_eq {a b : Lane} (hx : b.x = a.x) (hm : b.m = a.m) : Lane.Kept a b := ⟨hx, fun h => hm ▸ h⟩

theorem Lane.kept_cmp (l : Lane) : Lane.Kept l l.cmp := ⟨rfl, fun _ => isMask_maskOf _⟩

theorem Lane.kept_expm (c1 : Config.Coefficient) (nan : Nat → Word) (l : Lane) : Lane.Kept l (l.expm c1 nan) :=
  ⟨by simp [Lane.expm], fun _ => by simpa [Lane.expm] using isMask_maskOf _⟩

/-! ### Operations on every lane -/

theorem map_eq_mapIdx {α β : Type} (f : α → β) (l : List α) : l.map f = l.mapIdx fun _ => f :=
  List.ext_getElem (by simp) (by simp)

/-- An update of the lanes by their number, with the draws and the place, is a lane operation. -/
theorem laneStep_of_mapIdx {s t : State} {drawn : Nat} {code : StageCode} {R : Lane → Lane → Prop}
    (f : Nat → Lane → Lane) (hframe : t = { s with lanes := t.lanes, draws := s.draws + drawn, stage := code })
    (hlanes : t.lanes = s.lanes.mapIdx f) (hR : ∀ i l, R l (f i l)) : LaneStep s t drawn code R := by
  refine ⟨hframe, by rw [hlanes, List.length_mapIdx], fun i a b ha hb => ?_⟩
  rw [hlanes, List.getElem?_mapIdx, ha] at hb
  exact Option.some.inj hb ▸ hR i a

theorem laneStep_eachLane {R : Lane → Lane → Prop} {f : Lane → Lane} (hR : ∀ l, R l (f l)) (s : State)
    (code : StageCode) : LaneStep s ((s.eachLane f).goto code) 0 code R :=
  laneStep_of_mapIdx (fun _ => f) rfl (map_eq_mapIdx f s.lanes) fun _ => hR

theorem laneStep_drawLanes {R : Lane → Lane → Prop} {f : Word → Lane → Lane} (hR : ∀ nan l, R l (f nan l)) (s : State)
    (code : StageCode) : LaneStep s ((s.drawLanes f).goto code) 1 code R :=
  laneStep_of_mapIdx (fun i => f (drawnNaN s.draws i)) rfl rfl fun _ => hR _

theorem laneStep_scale {R : Lane → Lane → Prop} (hR : ∀ l : Lane, R l l.index.expWord.fetch.patch) (s : State) :
    LaneStep s s.scale 0 0x04#5 R :=
  laneStep_of_mapIdx (fun _ l => l.index.expWord.fetch.patch) s.scale_frame (s.scale_lanes.trans (map_eq_mapIdx _ _))
    fun _ => hR

theorem laneStep_expm {R : Lane → Lane → Prop} {s : State} (hR : ∀ nan l, R l (Lane.expm s.params.c1 nan l)) :
    LaneStep s s.expm 6 0x0E#5 R :=
  laneStep_of_mapIdx (fun i l => l.expm s.params.c1 fun d => drawnNaN (s.draws + d) i) s.expm_frame s.expm_lanes
    fun _ => hR _

/-- A register that a lane operation keeps in each lane it keeps in the whole state. -/
theorem LaneStep.map_lanes {α : Type} {s t : State} {drawn : Nat} {code : StageCode} {R : Lane → Lane → Prop}
    (h : LaneStep s t drawn code R) (g : Lane → α) (hg : ∀ a b, R a b → g b = g a) :
    t.lanes.map g = s.lanes.map g := by
  obtain ⟨-, hlength, hlanes⟩ := h
  refine List.ext_getElem (by simp [hlength]) fun i ht hs => ?_
  rw [List.getElem_map, List.getElem_map]
  exact hg _ _ (hlanes i _ _ (List.getElem?_eq_getElem _) (List.getElem?_eq_getElem _))

/-- A lane operation that keeps masks in each lane keeps them in the whole state. -/
theorem LaneStep.masks {s t : State} {drawn : Nat} {code : StageCode} (h : LaneStep s t drawn code Lane.Kept)
    (hs : ∀ l ∈ s.lanes, IsMask l.m) : ∀ l ∈ t.lanes, IsMask l.m := by
  obtain ⟨-, hlength, hlanes⟩ := h
  intro b hb
  obtain ⟨i, hi, rfl⟩ := List.getElem_of_mem hb
  have his : i < s.lanes.length := hlength ▸ hi
  exact (hlanes i _ _ (List.getElem?_eq_getElem his) (List.getElem?_eq_getElem hi)).mask (hs _ (List.getElem_mem his))

/-! ### What an operation does -/

/-- `Effect s i t`: what is so when the operation `i` takes `s` to `t`. `VX.START`, the operations of the sequencer
and `VX.CHUNK` have their next state and their conditions; of the lane operations the case `lane` says what the invariant and
`X` need. -/
inductive Effect (s : State) : Instr → State → Prop
  | start {len inBase outBase : Nat} (fits : s.Fits ⟨len, inBase, outBase⟩) (idle : s.busy = false)
      (admissible : s.Admissible ⟨len, inBase, outBase⟩) :
      Effect s (.vxStart len inBase outBase) (s.launched ⟨len, inBase, outBase⟩)
  | load (readable : ∀ i, i < s.W → s.readStop (s.inBase + 4 * (s.cur + i)) = none) : Effect s .vxLoad s.loaded
  | store (writable : ∀ i, i < s.W → s.writeStop (s.outBase + 4 * (s.cur + i)) = none) : Effect s .vxStore s.stored
  | next : Effect s .vxNext s.advance
  | done (busy : s.busy = true) (atEnd : s.cur = s.len) : Effect s .vxDone s.finished
  | chunk (busy : s.busy = true) (left : s.cur < s.len)
      (readable : ∀ i, i < s.W → s.readStop (s.inBase + 4 * (s.cur + i)) = none)
      (writable : ∀ i, i < s.W → s.writeStop (s.outBase + 4 * (s.cur + i)) = none) :
      Effect s .vxChunk s.loaded.expm.stored.advance
  | lane {i : Instr} {t : State} {drawn : Nat} {code : StageCode} (inside : inChunk i.stageCode)
      (laneStep : LaneStep s t drawn code Lane.Kept) (place : inChunk code) : Effect s i t

/-- An operation that answers what a lane operation makes has the effect of one. -/
theorem Effect.of_laneStep {s t u : State} {i : Instr} {drawn : Nat} {code : StageCode} (h : (.next u : Result) = .next t)
    (laneStep : LaneStep s u drawn code Lane.Kept) (inside : inChunk i.stageCode := by unfold inChunk; decide)
    (place : inChunk code := by unfold inChunk; decide) : Effect s i t :=
  Host.Outcome.next.inj h ▸ .lane inside laneStep place

/-- `VX.START` with a tuple answers a next state exactly where P1 to P8 of R162 hold. -/
theorem exec_vxStart_eq_next {s t : State} {l : Launch} :
    exec (.vxStart l.len l.inBase l.outBase) s = .next t ↔
      s.Fits l ∧ s.busy = false ∧ s.Admissible l ∧ t = s.launched l := by
  rw [← and_assoc (a := s.busy = false), ← State.violations_eq_nil_iff]
  exact execVxStart_eq_next

/-- Where an operation answers a next state, it has its effect. -/
theorem exec_effect {s t : State} {i : Instr} (h : exec i s = .next t) : Effect s i t := by
  cases i with
  | vxStart len inBase outBase =>
    obtain ⟨hfits, hidle, hadmissible, rfl⟩ := (exec_vxStart_eq_next (l := ⟨len, inBase, outBase⟩)).1 h
    exact .start hfits hidle hadmissible
  | vxLoad =>
    obtain ⟨rfl, hreadable⟩ := State.loadChunk_eq_next.1 h
    exact .load hreadable
  | vxStore =>
    obtain ⟨rfl, hwritable⟩ := State.storeChunk_eq_next.1 h
    exact .store hwritable
  | vxNext => exact Host.Outcome.next.inj h ▸ .next
  | vxDone =>
    obtain ⟨hbusy, hend, rfl⟩ := execVxDone_eq_next.1 h
    exact .done hbusy hend
  | vxChunk =>
    obtain ⟨hbusy, hleft, hreadable, hwritable, rfl⟩ := execVxChunk_eq_next.1 h
    exact .chunk hbusy hleft hreadable hwritable
  | rrBias => exact .of_laneStep h (laneStep_drawLanes (fun _ _ => .of_eq rfl rfl) s _)
  | rrUnbias => exact .of_laneStep h (laneStep_drawLanes (fun _ _ => .of_eq rfl rfl) s _)
  | rrReshi => exact .of_laneStep h (laneStep_drawLanes (fun _ _ => .of_eq rfl rfl) s _)
  | rrReslo => exact .of_laneStep h (laneStep_drawLanes (fun _ _ => .of_eq rfl rfl) s _)
  | peMul => exact .of_laneStep h (laneStep_drawLanes (fun _ _ => .of_eq rfl rfl) s _)
  | peComb => exact .of_laneStep h (laneStep_drawLanes (fun _ _ => .of_eq rfl rfl) s _)
  | srIndex => exact .of_laneStep h (laneStep_eachLane (fun _ => .of_eq rfl rfl) s _)
  | srExpw => exact .of_laneStep h (laneStep_eachLane (fun _ => .of_eq rfl rfl) s _)
  | lutFetch => exact .of_laneStep h (laneStep_eachLane (fun _ => .of_eq rfl rfl) s _)
  | xpPatch => exact .of_laneStep h (laneStep_eachLane (fun _ => .of_eq rfl rfl) s _)
  | dcCmp => exact .of_laneStep h (laneStep_eachLane Lane.kept_cmp s _)
  | dcMask => exact .of_laneStep h (laneStep_eachLane (fun _ => .of_eq rfl rfl) s _)
  | srScale => exact .of_laneStep h (laneStep_scale (fun _ => .of_eq rfl rfl) s)
  | laneExpm => exact .of_laneStep h (laneStep_expm fun _ => Lane.kept_expm _ _)

/-- Settles O39: the sequencer's other operations write no lane, and the lane operations keep `X` in each. -/
theorem onlyLoadsWriteTheInput : Obligations.OnlyLoadsWriteTheInput := by
  intro i s t hload hchunk h
  cases exec_effect h with
  | load => exact absurd rfl hload
  | chunk => exact absurd rfl hchunk
  | lane _ laneStep _ => exact laneStep.map_lanes Lane.x fun _ _ kept => kept.input
  | start | store | next | done => rfl

/-! ### The configuration -/

/-- Two states of the same block under the same host, with the same invocations elsewhere. -/
structure SameConfiguration (s t : State) : Prop where
  params : t.params = s.params
  lanes : t.W = s.W
  unreadable : t.unreadable = s.unreadable
  unwritable : t.unwritable = s.unwritable
  others : t.others = s.others

theorem SameConfiguration.refl (s : State) : SameConfiguration s s := ⟨rfl, rfl, rfl, rfl, rfl⟩

theorem SameConfiguration.trans {s t u : State} (h : SameConfiguration s t) (h' : SameConfiguration t u) :
    SameConfiguration s u :=
  ⟨h'.params.trans h.params, h'.lanes.trans h.lanes, h'.unreadable.trans h.unreadable,
    h'.unwritable.trans h.unwritable, h'.others.trans h.others⟩

/-- A lane operation changes lanes, draws and place alone. -/
theorem LaneStep.sameConfiguration {s t : State} {drawn : Nat} {code : StageCode} {R : Lane → Lane → Prop}
    (h : LaneStep s t drawn code R) : SameConfiguration s t := by
  obtain ⟨hframe, hlength, -⟩ := h
  exact ⟨by rw [hframe], hlength, by rw [hframe], by rw [hframe], by rw [hframe]⟩

theorem State.loaded_sameConfiguration (s : State) : SameConfiguration s s.loaded := ⟨rfl, s.loaded_W, rfl, rfl, rfl⟩

theorem State.expm_sameConfiguration (s : State) : SameConfiguration s s.expm :=
  ⟨s.expm_params, s.expm_W, s.expm_unreadable, s.expm_unwritable, s.expm_others⟩

theorem State.stored_sameConfiguration (s : State) : SameConfiguration s s.stored := ⟨rfl, rfl, rfl, rfl, rfl⟩

theorem State.advance_sameConfiguration (s : State) : SameConfiguration s s.advance := ⟨rfl, rfl, rfl, rfl, rfl⟩

theorem Effect.sameConfiguration {s t : State} {i : Instr} (h : Effect s i t) : SameConfiguration s t := by
  cases h with
  | start | done => exact ⟨rfl, rfl, rfl, rfl, rfl⟩
  | load => exact s.loaded_sameConfiguration
  | store => exact s.stored_sameConfiguration
  | next => exact s.advance_sameConfiguration
  | chunk =>
    exact (s.loaded_sameConfiguration.trans s.loaded.expm_sameConfiguration).trans
      (s.loaded.expm.stored_sameConfiguration.trans s.loaded.expm.stored.advance_sameConfiguration)
  | lane _ laneStep _ => exact laneStep.sameConfiguration

/-- Settles O13: reset ends the invocations elsewhere, and no operation changes any of it. -/
theorem stepKeepsTheConfiguration : Obligations.StepKeepsTheConfiguration := by
  intro s t h
  obtain ⟨hreset, rfl⟩ | ⟨hreset, hsame⟩ : (s.resetLine = true ∧ t = s.afterReset) ∨
      (s.resetLine = false ∧ SameConfiguration s t) := by
    obtain hreset | ⟨hreset, -, rfl⟩ | ⟨hreset, _, _, _, -, -, hexec⟩ := step_cases h
    · exact .inl hreset
    · exact .inr ⟨hreset, .refl _⟩
    · exact .inr ⟨hreset, (exec_effect hexec).sameConfiguration⟩
  · rw [if_pos hreset]
    exact ⟨rfl, s.afterReset_W, rfl, rfl, rfl⟩
  · rw [if_neg (by simp [hreset])]
    exact ⟨hsame.params, hsame.lanes, hsame.unreadable, hsame.unwritable, hsame.others⟩

/-! ### What a step does -/

/-- The tuple that the host presents is read back from its bytes. -/
theorem decode_encode_vxStart {xlen len inBase outBase : Nat} (hlen : len < 2 ^ xlen) (hin : inBase < 2 ^ xlen)
    (hout : outBase < 2 ^ xlen) (rest : List Byte) :
    decode xlen (encode xlen (.vxStart len inBase outBase) ++ rest) = .ok (.vxStart len inBase outBase, rest) := by
  simp [encode, Instr.stageCode, Instr.operands, decode, decodeStart, takeOperand_leBytes, hlen, hin, hout]

/-- An operation found by its code has that code. -/
theorem stageCode_of_ofStageCode {n : Nat} {i : Instr} (h : ofStageCode n = some i) : i.stageCode.toNat = n := by
  unfold ofStageCode at h
  split at h <;> cases h <;> rfl

theorem step_of_idle {s : State} (hreset : s.resetLine = false) (hstart : s.start = none) (hbusy : s.busy = false) :
    step s = .next s := by
  simp [step, State.fetch, hreset, hstart, hbusy]

/-- What a step that answers a next state does, where the presented tuple fits and a busy block is at a place: it resets,
idles, begins a run, or performs the operation that stands at the place. -/
theorem step_effect {s t : State} (htuple : ∀ l, s.start = some l → s.Fits l)
    (hplace : s.busy = true → s.stage ≠ 0x00#5) (h : step s = .next t) :
    (s.resetLine = true ∧ t = s.afterReset) ∨
    (s.resetLine = false ∧ s.start = none ∧ s.busy = false ∧ t = s) ∨
    (s.resetLine = false ∧ ∃ l, s.start = some l ∧ s.Fits l ∧ s.Admissible l ∧ t = s.launched l) ∨
    (s.resetLine = false ∧ s.start = none ∧ s.busy = true ∧ ∃ i, i.stageCode = s.stage ∧ Effect s i t) := by
  obtain hreset | ⟨hreset, hfetch, rfl⟩ | ⟨hreset, bytes, i, rest, hfetch, hdecode, hexec⟩ := step_cases h
  · exact .inl hreset
  · refine .inr (.inl ⟨hreset, ?_⟩)
    cases hstart : t.start with
    | some l => simp [State.fetch, hstart] at hfetch
    | none => simpa [State.fetch_of_no_start hstart] using hfetch
  · refine .inr (.inr ?_)
    cases hstart : s.start with
    | some l =>
      obtain ⟨hlen, hin, hout⟩ := htuple l hstart
      obtain rfl : encode s.params.xlen (.vxStart l.len l.inBase l.outBase) = bytes := by
        simpa [State.fetch, hstart] using hfetch
      have hread := decode_encode_vxStart hlen hin hout []
      rw [List.append_nil, hdecode] at hread
      obtain ⟨rfl, -⟩ := Prod.mk.inj (Except.ok.inj hread)
      obtain ⟨hfits, -, hadmissible, ht⟩ := exec_vxStart_eq_next.1 hexec
      exact .inl ⟨hreset, l, rfl, hfits, hadmissible, ht⟩
    | none =>
      obtain ⟨hbusy, rfl⟩ : s.busy = true ∧ [s.stage.setWidth 8] = bytes := by
        simpa [State.fetch_of_no_start hstart] using hfetch
      rw [decode_stage _ _ (hplace hbusy)] at hdecode
      split at hdecode
      · rename_i j hcode
        obtain ⟨rfl, -⟩ := Prod.mk.inj (Except.ok.inj hdecode)
        exact .inr ⟨hreset, rfl, hbusy, j, BitVec.eq_of_toNat_eq (stageCode_of_ofStageCode hcode), exec_effect hexec⟩
      · cases hdecode

/-! ### The cursor in a run -/

theorem State.Runs.stage_ne_zero {s : State} (h : s.Runs) : s.stage ≠ 0x00#5 := by
  obtain ⟨⟨hne, -⟩, -⟩ | ⟨hdone, -⟩ := h.place
  · exact hne
  · rw [hdone]; decide

/-- Inside a chunk elements are left. -/
theorem State.Runs.cur_lt_len {s : State} (h : s.Runs) (hin : inChunk s.stage) : s.cur < s.len := by
  obtain ⟨-, hnotDone, -⟩ := hin
  obtain ⟨-, hlt⟩ | ⟨hdone, -⟩ := h.place
  · exact hlt
  · exact absurd hdone hnotDone

/-- While elements are left a whole chunk is: the cursor and the length are multiples of `W` (R25). -/
theorem State.Runs.cur_add_W_le {s : State} (h : s.Runs) (hlt : s.cur < s.len) : s.cur + s.W ≤ s.len := by
  have hW : s.W ∣ s.len - s.cur := Nat.dvd_sub h.admitted.lengthMultipleOfW h.cursor
  have := Nat.le_of_dvd (by omega) hW
  omega

/-- So `VX.NEXT` moves the cursor by `W`, with no reduction (R174) and not past the length. -/
theorem State.Inv.advance_moves {s : State} (h : s.Inv) (hbusy : s.busy = true) (hlt : s.cur < s.len) :
    s.advance.cur = s.cur + s.W ∧ s.advance.cur ≤ s.advance.len ∧ s.advance.len = s.len := by
  have hle := (h.running hbusy).cur_add_W_le hlt
  obtain ⟨⟨hlen, -⟩, -⟩ := h.registers
  have hcur : s.advance.cur = s.cur + s.W := Nat.mod_eq_of_lt (Nat.lt_of_le_of_lt hle hlen)
  exact ⟨hcur, hcur ▸ hle, rfl⟩

/-! ### Steps that keep the invariant -/

theorem SameConfiguration.fits {s t : State} (h : SameConfiguration s t) {l : Launch} (hl : s.Fits l) : t.Fits l := by
  unfold State.Fits at *
  rwa [h.params]

theorem SameConfiguration.admissible {s t : State} (h : SameConfiguration s t) {l : Launch} (hl : s.Admissible l) :
    t.Admissible l :=
  State.admissible_of_le hl (by rw [h.params]) h.lanes h.unreadable h.unwritable fun _ ho => h.others ▸ ho

/-- The clauses of the invariant on the configuration go over to a state of the same block. -/
theorem State.Inv.of_sameConfiguration {s t : State} (h : s.Inv) (hsame : SameConfiguration s t)
    (memory : t.mem.wf = true) (space : ∀ c ∈ t.mem, c.1 < 2 ^ s.params.xlen)
    (registers : s.Fits t.invocation ∧ t.cur < 2 ^ s.params.xlen) (tuple : ∀ l, t.start = some l → s.Fits l)
    (masks : ∀ l ∈ t.lanes, IsMask l.m) (running : t.busy = true → t.Runs) : t.Inv where
  memory := memory
  space := by rwa [hsame.params]
  lanes := hsame.lanes ▸ h.lanes
  registers := ⟨hsame.fits registers.1, by rw [hsame.params]; exact registers.2⟩
  tuple := fun l hl => hsame.fits (tuple l hl)
  masks := masks
  elsewhere := fun o ho =>
    have ⟨hfits, hadmissible⟩ := h.elsewhere o (hsame.others ▸ ho)
    ⟨hsame.fits hfits, State.admissible_of_le hadmissible (by rw [hsame.params]) hsame.lanes hsame.unreadable
      hsame.unwritable fun _ ho => ho⟩
  apart := hsame.others ▸ h.apart
  running := running

/-- A step that stays inside the chunk: it leaves the sequencer registers and the presented tuple alone. -/
structure StaysInChunk (s t : State) : Prop where
  configuration : SameConfiguration s t
  invocation : t.invocation = s.invocation
  cur : t.cur = s.cur
  busy : t.busy = s.busy
  start : t.start = s.start
  place : inChunk t.stage

theorem LaneStep.mem_eq {s t : State} {drawn : Nat} {code : StageCode} {R : Lane → Lane → Prop}
    (h : LaneStep s t drawn code R) : t.mem = s.mem := by
  obtain ⟨hframe, -, -⟩ := h
  rw [hframe]

theorem LaneStep.staysInChunk {s t : State} {drawn : Nat} {code : StageCode} {R : Lane → Lane → Prop}
    (h : LaneStep s t drawn code R) (hcode : inChunk code) : StaysInChunk s t := by
  have hconfiguration := h.sameConfiguration
  obtain ⟨hframe, -, -⟩ := h
  exact ⟨hconfiguration, by rw [hframe]; rfl, by rw [hframe], by rw [hframe], by rw [hframe], by rw [hframe]; exact hcode⟩

theorem State.loaded_staysInChunk (s : State) : StaysInChunk s s.loaded :=
  ⟨s.loaded_sameConfiguration, rfl, rfl, rfl, rfl, by rw [State.loaded_stage]; unfold inChunk; decide⟩

theorem State.stored_staysInChunk (s : State) : StaysInChunk s s.stored :=
  ⟨s.stored_sameConfiguration, rfl, rfl, rfl, rfl, by rw [State.stored_stage]; unfold inChunk; decide⟩

/-- While elements are left, a step inside the chunk owes the invariant only what it writes: memory and masks. -/
theorem State.Inv.of_staysInChunk {s t : State} (h : s.Inv) (hlt : s.cur < s.len) (hstays : StaysInChunk s t)
    (memory : t.mem.wf = true) (space : ∀ c ∈ t.mem, c.1 < 2 ^ s.params.xlen) (masks : ∀ l ∈ t.lanes, IsMask l.m) :
    t.Inv := by
  have hlen : t.len = s.len := congrArg Launch.len hstays.invocation
  refine h.of_sameConfiguration hstays.configuration memory space ?_ (hstays.start ▸ h.tuple) masks fun hbusy => ?_
  · rw [hstays.invocation, hstays.cur]
    exact h.registers
  · have hrun := h.running (hstays.busy ▸ hbusy)
    exact
      { admitted := by rw [hstays.invocation]; exact hstays.configuration.admissible hrun.admitted
        cursor := by rw [hstays.configuration.lanes, hstays.cur]; exact hrun.cursor
        bound := by rw [hstays.cur, hlen]; exact hrun.bound
        place := .inl ⟨hstays.place, by rw [hstays.cur, hlen]; exact hlt⟩ }

theorem State.Inv.laneStep {s t : State} {drawn : Nat} {code : StageCode} (h : s.Inv) (hlt : s.cur < s.len)
    (hstep : LaneStep s t drawn code Lane.Kept) (hcode : inChunk code) : t.Inv := by
  have hmem := hstep.mem_eq
  exact h.of_staysInChunk hlt (hstep.staysInChunk hcode) (hmem ▸ h.memory) (hmem ▸ h.space) (hstep.masks h.masks)

theorem State.Inv.loaded {s : State} (h : s.Inv) (hlt : s.cur < s.len) : s.loaded.Inv := by
  refine h.of_staysInChunk hlt s.loaded_staysInChunk h.memory h.space fun l hl => ?_
  obtain ⟨i, hi, rfl⟩ := List.mem_mapIdx.1 hl
  exact h.masks s.lanes[i] (List.getElem_mem hi)

/-- The words of a chunk lie in the address space, since the run was admitted (P4 of R162). -/
theorem State.Inv.stored {s : State} (h : s.Inv) (hbusy : s.busy = true) (hlt : s.cur < s.len) : s.stored.Inv := by
  refine h.of_staysInChunk hlt s.stored_staysInChunk (Memory.writeWords_wf _ h.memory) (fun c hc => ?_) h.masks
  obtain ⟨e, he, -, hce⟩ | hc := Memory.mem_writeWords hc
  · obtain ⟨i, l, hil, rfl⟩ := State.mem_chunkWords.1 he
    have hi : i < s.W := (List.getElem?_eq_some_iff.1 hil).1
    have hrun := h.running hbusy
    have hle := hrun.cur_add_W_le hlt
    have hspace : s.outBase + 4 * s.len ≤ 2 ^ s.params.xlen := hrun.admitted.withinSpace.2
    simp only at hce
    omega
  · exact h.space c hc

/-- The loop test puts a run at a place that fits its cursor (R166). -/
theorem loopTest_place {cur len : Nat} (h : cur ≤ len) :
    (inChunk (loopTest cur len) ∧ cur < len) ∨ (loopTest cur len = 0x10#5 ∧ cur = len) := by
  unfold loopTest
  split
  · exact .inl ⟨by unfold inChunk; decide, ‹_›⟩
  · exact .inr ⟨rfl, by omega⟩

theorem State.Inv.advance {s : State} (h : s.Inv) (hbusy : s.busy = true) (hlt : s.cur < s.len) : s.advance.Inv := by
  have hrun := h.running hbusy
  obtain ⟨hcur, hle, -⟩ := h.advance_moves hbusy hlt
  obtain ⟨hlen, -⟩ := h.registers.1
  refine h.of_sameConfiguration s.advance_sameConfiguration h.memory h.space
    ⟨h.registers.1, Nat.lt_of_le_of_lt hle hlen⟩ h.tuple h.masks fun _ =>
    ⟨s.advance_sameConfiguration.admissible hrun.admitted, ?_, hle, loopTest_place hle⟩
  rw [hcur]
  exact Nat.dvd_add_self_right.2 hrun.cursor

/-- `VX.CHUNK` up to its last part, `VX.NEXT`. -/
theorem State.Inv.chunk_stored {s : State} (h : s.Inv) (hbusy : s.busy = true) (hlt : s.cur < s.len) :
    s.loaded.expm.stored.Inv ∧ s.loaded.expm.stored.busy = true ∧
      s.loaded.expm.stored.cur < s.loaded.expm.stored.len := by
  have hbusy' : s.loaded.expm.busy = true := by rw [State.expm_busy]; exact hbusy
  have hlt' : s.loaded.expm.cur < s.loaded.expm.len := by rw [State.expm_cur, State.expm_len]; exact hlt
  have hexpm : s.loaded.expm.Inv :=
    (h.loaded hlt).laneStep hlt (laneStep_expm fun _ => Lane.kept_expm _ _) (by unfold inChunk; decide)
  exact ⟨hexpm.stored hbusy' hlt', hbusy', hlt'⟩

theorem State.Inv.chunk_moves {s : State} (h : s.Inv) (hbusy : s.busy = true) (hlt : s.cur < s.len) :
    s.loaded.expm.stored.advance.cur = s.cur + s.W ∧
      s.loaded.expm.stored.advance.cur ≤ s.loaded.expm.stored.advance.len ∧
      s.loaded.expm.stored.advance.len = s.len := by
  obtain ⟨hstored, hbusy', hlt'⟩ := h.chunk_stored hbusy hlt
  obtain ⟨hcur, hle, hlen⟩ := hstored.advance_moves hbusy' hlt'
  rw [State.stored_cur, State.expm_cur, State.loaded_cur, State.stored_W, State.expm_W, State.loaded_W] at hcur
  rw [State.stored_len, State.expm_len, State.loaded_len] at hlen
  exact ⟨hcur, hle, hlen⟩

theorem State.Inv.finished {s : State} (h : s.Inv) : s.finished.Inv :=
  h.of_sameConfiguration ⟨rfl, rfl, rfl, rfl, rfl⟩ h.memory h.space h.registers h.tuple h.masks nofun

theorem State.Inv.launched {s : State} {l : Launch} (h : s.Inv) (hfits : s.Fits l) (hadmissible : s.Admissible l) :
    (s.launched l).Inv := by
  have hsame : SameConfiguration s (s.launched l) := ⟨rfl, rfl, rfl, rfl, rfl⟩
  exact h.of_sameConfiguration hsame h.memory h.space ⟨hfits, Nat.two_pow_pos _⟩ nofun h.masks fun _ =>
    ⟨hsame.admissible hadmissible, Nat.dvd_zero _, Nat.zero_le _, loopTest_place (Nat.zero_le _)⟩

/-- Every word that a reset leaves could be written, so it lies in the address space. -/
theorem State.writeStop_of_mem_wordsAtReset {s : State} {e : Nat × Word} (h : e ∈ s.wordsAtReset) :
    s.writeStop e.1 = none := by
  obtain h | ⟨k, o, -, h⟩ := State.mem_wordsAtReset.1 h
  · obtain ⟨-, i, -, hwritable, rfl⟩ := State.mem_ownWordsAtReset.1 h
    exact hwritable
  · obtain ⟨i, -, hwritable, rfl⟩ := State.mem_abandonedWords.1 h
    exact hwritable

theorem State.Inv.afterReset {s : State} (h : s.Inv) : s.afterReset.Inv where
  memory := Memory.writeWords_wf _ h.memory
  space := by
    intro c hc
    obtain ⟨e, he, -, hce⟩ | hc := Memory.mem_writeWords hc
    · have := (State.writeStop_eq_none.1 (State.writeStop_of_mem_wordsAtReset he)).1
      rw [State.afterReset_params]
      omega
    · exact h.space c hc
  lanes := s.afterReset_W ▸ h.lanes
  registers := ⟨⟨Nat.two_pow_pos _, Nat.two_pow_pos _, Nat.two_pow_pos _⟩, Nat.two_pow_pos _⟩
  tuple := nofun
  masks := fun _ => isMask_of_mem_replicate
  elsewhere := List.forall_mem_nil _
  apart := .nil
  running := nofun

/-- An operation that stands at the place of a run keeps the invariant. -/
theorem Effect.inv {s t : State} {i : Instr} (h : Effect s i t) (hinv : s.Inv) (hbusy : s.busy = true)
    (hcode : i.stageCode = s.stage) : t.Inv := by
  have hleft (hin : inChunk i.stageCode) : s.cur < s.len := (hinv.running hbusy).cur_lt_len (hcode ▸ hin)
  cases h with
  | start fits _ admissible => exact hinv.launched fits admissible
  | load => exact hinv.loaded (hleft (by unfold inChunk; decide))
  | store => exact hinv.stored hbusy (hleft (by unfold inChunk; decide))
  | next => exact hinv.advance hbusy (hleft (by unfold inChunk; decide))
  | done => exact hinv.finished
  | chunk _ left _ _ =>
    obtain ⟨hstored, hbusy', hlt⟩ := hinv.chunk_stored hbusy left
    exact hstored.advance hbusy' hlt
  | lane inside laneStep place => exact hinv.laneStep (hleft inside) laneStep place

/-- Settles O8, by the four kinds of step. -/
theorem stepKeepsTheInvariant : Obligations.StepKeepsTheInvariant := by
  intro s t hinv h
  obtain ⟨-, rfl⟩ | ⟨-, -, -, rfl⟩ | ⟨-, l, -, hfits, hadmissible, rfl⟩ | ⟨-, -, hbusy, i, hcode, heffect⟩ :=
    step_effect hinv.tuple (fun hbusy => (hinv.running hbusy).stage_ne_zero) h
  · exact hinv.afterReset
  · exact hinv
  · exact hinv.launched hfits hadmissible
  · exact heffect.inv hinv hbusy hcode

/-- Settles O14: of the operations at a place only `VX.NEXT` and `VX.CHUNK` move the cursor, the second in its last
part. -/
theorem cursorMovesByTheLaneWidth : Obligations.CursorMovesByTheLaneWidth := by
  intro s t hinv hreset h
  obtain ⟨hreset', -⟩ | ⟨-, hnone, hidle, rfl⟩ | ⟨-, l, hsome, -, -, rfl⟩ | ⟨-, hnone, hbusy, i, hcode, heffect⟩ :=
    step_effect hinv.tuple (fun hbusy => (hinv.running hbusy).stage_ne_zero) h
  · rw [hreset] at hreset'
    cases hreset'
  · refine ⟨fun hstart => absurd hnone hstart, fun _ hbusy => ?_, fun _ _ => rfl⟩
    rw [hidle] at hbusy
    cases hbusy
  · exact ⟨fun _ => rfl, fun hnone => by simp [hsome] at hnone, fun hnone => by simp [hsome] at hnone⟩
  · refine ⟨fun hstart => absurd hnone hstart, fun _ _ hstage => ?moves, fun _ hother => ?keeps⟩
    case moves =>
      obtain hstage | hstage := hstage
      · have hlt := (hinv.running hbusy).cur_lt_len (by rw [hstage]; unfold inChunk; decide)
        have hexec := step_of_stage (i := .vxNext) hreset hnone hbusy (by rw [hstage]; decide) (by rw [hstage]; rfl)
        obtain rfl : s.advance = t := Host.Outcome.next.inj (hexec.symm.trans h)
        exact hinv.advance_moves hbusy hlt
      · have hexec := step_of_stage (i := .vxChunk) hreset hnone hbusy (by rw [hstage]; decide) (by rw [hstage]; rfl)
        obtain ⟨-, hlt, -, -, rfl⟩ := execVxChunk_eq_next.1 (hexec.symm.trans h)
        exact hinv.chunk_moves hbusy hlt
    case keeps =>
      cases heffect with
      | start _ idle _ => exact absurd (hbusy.symm.trans idle) nofun
      | load | store | done => rfl
      | next => exact absurd ⟨hbusy, .inl hcode.symm⟩ hother
      | chunk => exact absurd ⟨hbusy, .inr hcode.symm⟩ hother
      | lane _ laneStep place => exact (laneStep.staysInChunk place).cur

/-! ### The state after reset -/

/-- Settles O9: the registers are zero, nothing is listed and nothing runs. -/
theorem resetHasTheInvariant : Obligations.ResetHasTheInvariant where
  memory := Memory.reset_wf
  space := List.forall_mem_nil _
  lanes := by decide
  registers := ⟨⟨Nat.two_pow_pos _, Nat.two_pow_pos _, Nat.two_pow_pos _⟩, Nat.two_pow_pos _⟩
  tuple := nofun
  masks := fun _ => isMask_of_mem_replicate
  elsewhere := List.forall_mem_nil _
  apart := .nil
  running := nofun

/-- Settles O10: with no tuple presented an idle block stays as it is (R201). -/
theorem resetIsIdle : Obligations.ResetIsIdle := ⟨rfl, rfl, step_of_idle rfl rfl rfl⟩

end Sys2Proof.Machine
end

section
/-! SUPPORT and PROOFS. The buffer space, word by word: a canonical memory is what its bytes read as, a word written is the
word read, and the order in which disjoint words are written is of no account. -/

namespace Sys2Proof.Machine

/-! ### Canonical memories -/

/-- The first entry of a canonical memory is no byte that another memory leaves unlisted and reads alike. -/
theorem Memory.not_above_of_readByte_eq {a : Nat} {v : Byte} {m n : Memory} (hm : Memory.wf ((a, v) :: m) = true)
    (hn : n.wf = true) (h : ∀ x, Memory.readByte ((a, v) :: m) x = n.readByte x) : ¬ Memory.above a n = true := by
  intro habove
  obtain ⟨hv, -, -⟩ := Memory.wf_entry.1 hm
  have hread : v = n.readByte a := by simpa [Memory.readByte] using h a
  exact hv (hread.trans (Memory.readByte_of_above habove hn))

/-- Canonical memories that read alike have the same entries: neither first entry lies below the other, so both stand at one
address, and what follows them reads alike. -/
theorem Memory.eq_of_readByte_eq {m n : Memory} (hm : m.wf = true) (hn : n.wf = true)
    (h : ∀ a, m.readByte a = n.readByte a) : m = n := by
  induction m generalizing n with
  | nil =>
    cases n with
    | nil => rfl
    | cons d n => exact absurd rfl (Memory.not_above_of_readByte_eq hn hm fun a => (h a).symm)
  | cons c m ih =>
    cases n with
    | nil => exact absurd rfl (Memory.not_above_of_readByte_eq hm hn h)
    | cons d n =>
      obtain ⟨a, v⟩ := c
      obtain ⟨b, w⟩ := d
      have hab := Memory.not_above_of_readByte_eq hm hn h
      have hba := Memory.not_above_of_readByte_eq hn hm fun x => (h x).symm
      simp only [Memory.above, decide_eq_true_eq] at hab hba
      obtain rfl : a = b := by omega
      obtain rfl : v = w := by simpa [Memory.readByte] using h a
      obtain ⟨-, hma, hm⟩ := Memory.wf_entry.1 hm
      obtain ⟨-, hna, hn⟩ := Memory.wf_entry.1 hn
      rw [ih hm hn fun x => ?_]
      by_cases hx : x = a
      · rw [hx, Memory.readByte_of_above hma hm, Memory.readByte_of_above hna hn]
      · simpa [Memory.readByte, hx] using h x

/-- Settles O60, by induction on both lists of entries. -/
theorem canonicalMemoriesAreEqual : Obligations.CanonicalMemoriesAreEqual :=
  fun _ _ hm hn h => Memory.eq_of_readByte_eq hm hn h

/-! ### One word -/

/-- The bytes of a word written, least significant first (R42). -/
theorem Memory.readByte_writeWord_inside {m : Memory} {a i : Nat} (v : Word) (hw : m.wf = true) (hi : i < 4) :
    (m.writeWord a v).readByte (a + i) = v.extractLsb' (8 * i) 8 := by
  have h0 := Memory.writeByte_wf a (v.extractLsb' 0 8) hw
  have h1 := Memory.writeByte_wf (a + 1) (v.extractLsb' 8 8) h0
  have h2 := Memory.writeByte_wf (a + 2) (v.extractLsb' 16 8) h1
  unfold Memory.writeWord
  rw [Memory.readByte_writeByte _ _ _ h2, Memory.readByte_writeByte _ _ _ h1, Memory.readByte_writeByte _ _ _ h0,
    Memory.readByte_writeByte _ _ _ hw]
  obtain rfl | rfl | rfl | rfl : i = 0 ∨ i = 1 ∨ i = 2 ∨ i = 3 := by omega
  all_goals simp

/-- The word whose bytes an address and the next three hold. -/
theorem Memory.readWord_of_bytes {m : Memory} {a : Nat} {v : Word}
    (h : ∀ i, i < 4 → m.readByte (a + i) = v.extractLsb' (8 * i) 8) : m.readWord a = v := by
  have hlow := h 0 (by omega)
  rw [Nat.add_zero] at hlow
  unfold Memory.readWord
  rw [h 3 (by omega), h 2 (by omega), h 1 (by omega), hlow,
    BitVec.extractLsb'_append_extractLsb'_eq_extractLsb' (start₂ := 8 * 3) (start₁ := 8 * 2) rfl,
    BitVec.extractLsb'_append_extractLsb'_eq_extractLsb' (start₂ := 8 * 2) (start₁ := 8 * 1) rfl,
    BitVec.extractLsb'_append_extractLsb'_eq_extractLsb' (start₂ := 8 * 1) (start₁ := 8 * 0) rfl]
  exact BitVec.extractLsb'_eq_self

/-- A word reads as before where its four bytes do. -/
theorem Memory.readWord_congr {m n : Memory} {a : Nat} (h : ∀ y, a ≤ y → y < a + 4 → m.readByte y = n.readByte y) :
    m.readWord a = n.readWord a := by
  unfold Memory.readWord
  rw [h (a + 3) (by omega) (by omega), h (a + 2) (by omega) (by omega), h (a + 1) (by omega) (by omega),
    h a (by omega) (by omega)]

/-- Settles O59: the bytes written are those read, and the others are left alone. -/
theorem wordReadAfterWrite : Obligations.WordReadAfterWrite := by
  intro m a b v hw
  refine ⟨Memory.readWord_of_bytes fun i hi => Memory.readByte_writeWord_inside v hw hi,
    Memory.readByte_writeWord_inside (i := 0) v hw (by omega),
    Memory.readByte_writeWord_inside (i := 3) v hw (by omega), fun hapart => ?_⟩
  exact Memory.readWord_congr fun y h1 h2 => Memory.readByte_writeWord_outside v hw (by omega)

/-! ### Many words -/

/-- Two words, each with its address, have no byte in common. -/
def WordsApart (e f : Nat × Word) : Prop := e.1 + 4 ≤ f.1 ∨ f.1 + 4 ≤ e.1

/-- Of words apart each byte is the one last written, whichever word was. -/
theorem Memory.readByte_writeWords_inside {m : Memory} {ws : List (Nat × Word)} {e : Nat × Word} {i : Nat}
    (hw : m.wf = true) (hapart : ws.Pairwise WordsApart) (he : e ∈ ws) (hi : i < 4) :
    (m.writeWords ws).readByte (e.1 + i) = e.2.extractLsb' (8 * i) 8 := by
  induction ws generalizing m with
  | nil => cases he
  | cons f ws ih =>
    obtain ⟨hf, hapart⟩ := List.pairwise_cons.1 hapart
    have hw' := Memory.writeWord_wf f.1 f.2 hw
    obtain rfl | he := List.mem_cons.1 he
    · calc ((m.writeWord e.1 e.2).writeWords ws).readByte (e.1 + i)
          = (m.writeWord e.1 e.2).readByte (e.1 + i) :=
            Memory.readByte_writeWords_outside hw' fun g hg => by
              have := hf g hg
              unfold WordsApart at this
              omega
        _ = e.2.extractLsb' (8 * i) 8 := Memory.readByte_writeWord_inside e.2 hw hi
    · exact ih hw' hapart he

/-- Each of the words written apart is read back. -/
theorem Memory.readWord_writeWords {m : Memory} {ws : List (Nat × Word)} {a : Nat} {v : Word} (hw : m.wf = true)
    (hapart : ws.Pairwise WordsApart) (he : (a, v) ∈ ws) : (m.writeWords ws).readWord a = v :=
  Memory.readWord_of_bytes fun _ hi => Memory.readByte_writeWords_inside hw hapart he hi

/-- Words apart may be written in any order: every byte is that of the one word it lies in, or as it was before. -/
theorem Memory.writeWords_perm {m : Memory} {ws ws' : List (Nat × Word)} (hw : m.wf = true)
    (hapart : ws.Pairwise WordsApart) (hperm : ws'.Perm ws) : m.writeWords ws' = m.writeWords ws := by
  have hapart' : ws'.Pairwise WordsApart := (hperm.pairwise_iff Or.symm).2 hapart
  refine Memory.eq_of_readByte_eq (Memory.writeWords_wf _ hw) (Memory.writeWords_wf _ hw) fun y => ?_
  by_cases hin : ∃ e ∈ ws, e.1 ≤ y ∧ y < e.1 + 4
  · obtain ⟨e, he, h1, h2⟩ := hin
    obtain ⟨i, rfl⟩ := Nat.exists_eq_add_of_le h1
    rw [Memory.readByte_writeWords_inside hw hapart he (by omega),
      Memory.readByte_writeWords_inside hw hapart' (hperm.mem_iff.2 he) (by omega)]
  · have hout : ∀ e ∈ ws, y < e.1 ∨ e.1 + 4 ≤ y := fun e he => by
      by_contra h
      exact hin ⟨e, he, by omega, by omega⟩
    rw [Memory.readByte_writeWords_outside hw hout,
      Memory.readByte_writeWords_outside hw fun e he => hout e (hperm.mem_iff.1 he)]

/-- The words of a chunk are apart. -/
theorem State.chunkWords_apart (s : State) : s.chunkWords.Pairwise WordsApart := by
  rw [List.pairwise_iff_getElem]
  intro i j hi hj hij
  simp only [State.chunkWords, List.getElem_mapIdx, WordsApart, elementAddr]
  omega

/-- Settles O29: the words of a chunk are apart. -/
theorem storeOrderIsImmaterial : Obligations.StoreOrderIsImmaterial :=
  fun s _ hw hperm => Memory.writeWords_perm hw s.chunkWords_apart hperm

end Sys2Proof.Machine
end

section
/-! SUPPORT and PROOFS. Accesses: where the block may read and write, the names of the stops, which tuples are refused for
their ranges, and what a step leaves alone. -/

namespace Sys2Proof.Machine

/-! ### Where an element may be accessed -/

/-- What `State.MayRead` and `State.MayWrite` say of an element, for any list of denied ranges. -/
def MayAccess (xlen : Nat) (denied : List Region) (base i : Nat) : Prop :=
  base + 4 * i + 4 ≤ 2 ^ xlen ∧ (base + 4 * i) % 4 = 0 ∧ ∀ r ∈ denied, OutsideRegion base i r

/-- What `State.readStop` and `State.writeStop` answer, for any list of denied ranges and any name of a denied word. -/
def accessStop (xlen : Nat) (denied : List Region) (deniedWord : Nat → Refusal) (a : Nat) : Option Result :=
  if 2 ^ xlen < a + 4 then some (.fault (.addressOutsideSpace a))
  else if a % 4 ≠ 0 then some (.refused (.misaligned a))
  else if meetsAny denied a 4 then some (.refused (deniedWord a))
  else none

theorem State.readStop_eq (s : State) :
    s.readStop = accessStop s.params.xlen s.unreadable .unreadableWord := rfl

theorem State.writeStop_eq (s : State) :
    s.writeStop = accessStop s.params.xlen s.unwritable .unwritableWord := rfl

theorem meetsAny_element_eq_false {regions : List Region} {base i : Nat} :
    meetsAny regions (base + 4 * i) 4 = false ↔ ∀ r ∈ regions, OutsideRegion base i r := by
  rw [meetsAny_eq_false]
  refine forall₂_congr fun r _ => ⟨fun h b hb => h _ (by omega) (by omega), fun h x h1 h2 => ?_⟩
  obtain ⟨b, rfl⟩ := Nat.exists_eq_add_of_le h1
  exact h b (by omega)

section

variable {xlen : Nat} {denied : List Region} {deniedWord : Nat → Refusal} {base i : Nat}

theorem accessStop_eq_none :
    accessStop xlen denied deniedWord (base + 4 * i) = none ↔ MayAccess xlen denied base i := by
  unfold accessStop MayAccess
  rw [← meetsAny_element_eq_false]
  split
  · simp; omega
  · split
    · simp; omega
    · split <;> simp_all

/-- The stop at an element that may not be accessed: its address does not exist, or it is misaligned, or it is denied. -/
theorem accessStop_cases :
    (2 ^ xlen < base + 4 * i + 4 → accessStop xlen denied deniedWord (base + 4 * i) =
      some (.fault (.addressOutsideSpace (base + 4 * i)))) ∧
    (base + 4 * i + 4 ≤ 2 ^ xlen → (base + 4 * i) % 4 ≠ 0 → accessStop xlen denied deniedWord (base + 4 * i) =
      some (.refused (.misaligned (base + 4 * i)))) ∧
    (base + 4 * i + 4 ≤ 2 ^ xlen → (base + 4 * i) % 4 = 0 → (∃ r ∈ denied, ¬ OutsideRegion base i r) →
      accessStop xlen denied deniedWord (base + 4 * i) = some (.refused (deniedWord (base + 4 * i)))) := by
  refine ⟨fun hspace => if_pos hspace, fun hspace halign => ?_, fun hspace halign hdenied => ?_⟩
  · rw [accessStop, if_neg (by omega), if_pos halign]
  · have hmeets : meetsAny denied (base + 4 * i) 4 = true := by
      rw [← Bool.not_eq_false, meetsAny_element_eq_false]
      push Not
      exact hdenied
    rw [accessStop, if_neg (by omega), if_neg (by omega), if_pos hmeets]

end

theorem State.readStop_eq_none_iff {s : State} {base i : Nat} :
    s.readStop (base + 4 * i) = none ↔ s.MayRead base i := by
  rw [State.readStop_eq]
  exact accessStop_eq_none

theorem State.writeStop_eq_none_iff {s : State} {base i : Nat} :
    s.writeStop (base + 4 * i) = none ↔ s.MayWrite base i := by
  rw [State.writeStop_eq]
  exact accessStop_eq_none

theorem State.Admissible.mayRead {s : State} {l : Launch} (h : s.Admissible l) {i : Nat} (hi : i < l.len) :
    s.MayRead l.inBase i := by
  obtain ⟨hspace, -⟩ := h.withinSpace
  obtain ⟨halign, -⟩ := h.basesAligned
  exact ⟨by omega, by omega, h.readable i hi⟩

theorem State.Admissible.mayWrite {s : State} {l : Launch} (h : s.Admissible l) {i : Nat} (hi : i < l.len) :
    s.MayWrite l.outBase i := by
  obtain ⟨-, hspace⟩ := h.withinSpace
  obtain ⟨-, halign⟩ := h.basesAligned
  exact ⟨by omega, by omega, h.writable i hi⟩

/-! ### The first stop of a chunk -/

/-- The stop of a chunk is the one of its first element that has one. -/
theorem State.findSome?_chunkAddrs {s : State} {base i : Nat} {access : Nat → Option Result} {stop : Result}
    (hi : i < s.W) (hbefore : ∀ j, j < i → access (base + 4 * (s.cur + j)) = none)
    (hstop : access (base + 4 * (s.cur + i)) = some stop) : (s.chunkAddrs base).findSome? access = some stop := by
  have hlt : i < (s.chunkAddrs base).length := by simpa [State.chunkAddrs] using hi
  have hat : (s.chunkAddrs base)[i] = base + 4 * (s.cur + i) := by simp [State.chunkAddrs, elementAddr]
  refine List.findSome?_eq_some_iff.2 ⟨(s.chunkAddrs base).take i, (s.chunkAddrs base)[i],
    (s.chunkAddrs base).drop (i + 1), ?_, hat ▸ hstop, fun a ha => ?_⟩
  · rw [← List.drop_eq_getElem_cons, List.take_append_drop]
  · obtain ⟨j, hj, rfl⟩ : ∃ j, j < i ∧ base + 4 * (s.cur + j) = a := by
      simpa [State.chunkAddrs, elementAddr, ← List.map_take, List.take_range, Nat.min_eq_left hi.le] using ha
    exact hbefore j hj

theorem State.loadChunk_of_stop {s : State} {stop : Result}
    (h : (s.chunkAddrs s.inBase).findSome? s.readStop = some stop) : exec .vxLoad s = stop := by
  simp only [exec, execVxLoad, State.loadChunk, h]

theorem State.storeChunk_of_stop {s : State} {stop : Result}
    (h : (s.chunkAddrs s.outBase).findSome? s.writeStop = some stop) : exec .vxStore s = stop := by
  simp only [exec, execVxStore, State.storeChunk, h]

/-- An operation on a chunk that answers the stop of the first element that has one stops at an element that may not be
accessed, where the elements before it may, and by the name of the reason. -/
theorem State.chunk_stops_by_name {s : State} {denied : List Region} {deniedWord : Nat → Refusal} {base i : Nat}
    {r : Result} (hi : i < s.W) (hbefore : ∀ j, j < i → MayAccess s.params.xlen denied base (s.cur + j))
    (hr : ∀ {stop}, (s.chunkAddrs base).findSome? (accessStop s.params.xlen denied deniedWord) = some stop →
      r = stop) :
    (2 ^ s.params.xlen < base + 4 * (s.cur + i) + 4 → r = .fault (.addressOutsideSpace (base + 4 * (s.cur + i)))) ∧
    (base + 4 * (s.cur + i) + 4 ≤ 2 ^ s.params.xlen → (base + 4 * (s.cur + i)) % 4 ≠ 0 →
      r = .refused (.misaligned (base + 4 * (s.cur + i)))) ∧
    (base + 4 * (s.cur + i) + 4 ≤ 2 ^ s.params.xlen → (base + 4 * (s.cur + i)) % 4 = 0 →
      (∃ d ∈ denied, ¬ OutsideRegion base (s.cur + i) d) → r = .refused (deniedWord (base + 4 * (s.cur + i)))) := by
  have hfirst {stop : Result}
      (hstop : accessStop s.params.xlen denied deniedWord (base + 4 * (s.cur + i)) = some stop) : r = stop :=
    hr (State.findSome?_chunkAddrs hi (fun j hj => accessStop_eq_none.2 (hbefore j hj)) hstop)
  obtain ⟨hspace, halign, hdenied⟩ := accessStop_cases (xlen := s.params.xlen) (denied := denied)
    (deniedWord := deniedWord) (base := base) (i := s.cur + i)
  exact ⟨fun h => hfirst (hspace h), fun h h' => hfirst (halign h h'), fun h h' h'' => hfirst (hdenied h h' h'')⟩

/-- Settles O28: the elements before the stop may be accessed, so it is the first. -/
theorem accessesStopByName : Obligations.AccessesStopByName := fun _ _ hi =>
  ⟨fun hbefore => State.chunk_stops_by_name hi hbefore State.loadChunk_of_stop,
    fun hbefore => State.chunk_stops_by_name hi hbefore State.storeChunk_of_stop⟩

/-! ### Tuples that are refused -/

/-- Where P1 to P8 of R162 do not all hold of a tuple, it is refused. -/
theorem exec_vxStart_refused {s : State} {l : Launch} (h : ¬ s.Admissible l) :
    ∃ why, exec (.vxStart l.len l.inBase l.outBase) s = .refused why := by
  have hviolated : s.violations l ≠ [] := fun hnil => h (State.violations_eq_nil_iff.1 hnil).2
  simp only [exec, execVxStart, if_neg hviolated]
  split
  · exact ⟨_, rfl⟩
  · exact ⟨_, rfl⟩

/-- Settles O25: an address in both ranges breaks P6, a range past the top breaks P4. -/
theorem overlapAndWrapAreRefused : Obligations.OverlapAndWrapAreRefused := by
  intro s len inBase outBase
  have hoverlap (h : ∃ a, inBase ≤ a ∧ a < inBase + 4 * len ∧ outBase ≤ a ∧ a < outBase + 4 * len) :
      ∃ why, exec (.vxStart len inBase outBase) s = .refused why := by
    obtain ⟨a, h1, h2, h3, h4⟩ := h
    refine exec_vxStart_refused (l := ⟨len, inBase, outBase⟩) fun hadmissible => ?_
    have hdisjoint : BuffersDisjoint inBase len outBase len := hadmissible.disjoint
    exact hdisjoint (a - inBase) (a - outBase) (by omega) (by omega) (by omega)
  refine ⟨hoverlap, fun hlen hsame => hoverlap ⟨inBase, by omega⟩, fun hwrap => ?_⟩
  exact exec_vxStart_refused (l := ⟨len, inBase, outBase⟩) fun hadmissible => hwrap hadmissible.withinSpace

/-! ### What a step writes -/

/-- A reset changes no byte outside the output buffers of the invocations that it ends. -/
theorem State.afterReset_readByte_outside {s : State} (hw : s.mem.wf = true) {a : Nat}
    (hown : ¬ (s.busy = true ∧ s.outBase ≤ a ∧ a < s.outBase + 4 * s.len))
    (hothers : ∀ o ∈ s.others, ¬ (o.outBase ≤ a ∧ a < o.outBase + 4 * o.len)) :
    s.afterReset.mem.readByte a = s.mem.readByte a := by
  refine Memory.readByte_writeWords_outside hw fun e he => ?_
  obtain he | ⟨k, o, ho, he⟩ := State.mem_wordsAtReset.1 he
  · obtain ⟨hbusy, i, hi, -, rfl⟩ := State.mem_ownWordsAtReset.1 he
    simp only [hbusy, true_and] at hown ⊢
    omega
  · obtain ⟨i, hi, -, rfl⟩ := State.mem_abandonedWords.1 he
    have := hothers o (List.mem_of_getElem? ho)
    simp only
    omega

/-- An operation of a run changes no byte outside its output buffer: a chunk that is left lies in the buffer. -/
theorem Effect.readByte_outside {s t : State} {i : Instr} {a : Nat} (h : Effect s i t) (hinv : s.Inv)
    (hbusy : s.busy = true) (hcode : i.stageCode = s.stage)
    (hout : ¬ (s.outBase ≤ a ∧ a < s.outBase + 4 * s.len)) : t.mem.readByte a = s.mem.readByte a := by
  have hchunk (hlt : s.cur < s.len) : ¬ (s.outBase + 4 * s.cur ≤ a ∧ a < s.outBase + 4 * (s.cur + s.W)) := by
    have := (hinv.running hbusy).cur_add_W_le hlt
    omega
  cases h with
  | start | load | next | done => rfl
  | store =>
    have hlt := (hinv.running hbusy).cur_lt_len (hcode ▸ by unfold inChunk; decide)
    exact State.stored_readByte_outside hinv.memory (hchunk hlt)
  | chunk _ left _ _ =>
    calc s.loaded.expm.stored.mem.readByte a
        = s.loaded.expm.mem.readByte a :=
          State.stored_readByte_outside (by simpa using hinv.memory) (by simpa using hchunk left)
      _ = s.mem.readByte a := by simp
  | lane _ laneStep _ => rw [laneStep.mem_eq]

/-- Settles O15, by the four kinds of step. -/
theorem stepWritesOnlyTheOutputBuffer : Obligations.StepWritesOnlyTheOutputBuffer := by
  intro s t hinv h a hown hothers
  obtain ⟨hreset, rfl⟩ | ⟨-, -, -, rfl⟩ | ⟨-, l, -, -, -, rfl⟩ | ⟨-, -, hbusy, i, hcode, heffect⟩ :=
    step_effect hinv.tuple (fun hbusy => (hinv.running hbusy).stage_ne_zero) h
  · exact State.afterReset_readByte_outside hinv.memory hown (hothers hreset)
  · rfl
  · rfl
  · exact heffect.readByte_outside hinv hbusy hcode fun hout => hown ⟨hbusy, hout⟩

end Sys2Proof.Machine
end

section
/-! SUPPORT and PROOFS. Whole invocations: a pseudo-operation is the run of its parts, an admitted invocation is a loop of
chunks between `VX.START` and `VX.DONE`, and what it leaves is read off that loop. -/

namespace Sys2Proof.Machine

/-! ### Steps of a run -/

/-- The next step of `s` is the operation whose stage code is `code`: a busy block at that place, with no reset and no tuple
presented. -/
structure State.AtPlace (s : State) (code : StageCode) : Prop where
  noReset : s.resetLine = false
  noStart : s.start = none
  busy : s.busy = true
  stage : s.stage = code

theorem State.AtPlace.runSteps_succ {s : State} {code : StageCode} {i : Instr} (h : s.AtPlace code) (k : Nat)
    (h0 : code ≠ 0x00#5 := by decide) (hi : ofStageCode code.toNat = some i := by rfl) :
    runSteps (k + 1) s = andThen (exec i s) (runSteps k) := by
  obtain ⟨hreset, hstart, hbusy, rfl⟩ := h
  exact runSteps_of_stage k hreset hstart hbusy h0 hi

/-- A step of a run whose operation has a next state. -/
theorem State.AtPlace.runSteps_next {s t : State} {code : StageCode} (h : s.AtPlace code) (i : Instr) (k : Nat)
    (hexec : exec i s = .next t := by rfl) (h0 : code ≠ 0x00#5 := by decide)
    (hi : ofStageCode code.toNat = some i := by rfl) : runSteps (k + 1) s = runSteps k t := by
  rw [h.runSteps_succ k h0 hi, hexec, andThen_next]

/-- A lane operation takes a run to the next place. -/
theorem State.AtPlace.laneStep {s t : State} {code code' : StageCode} {drawn : Nat} {R : Lane → Lane → Prop}
    (h : s.AtPlace code) (hstep : LaneStep s t drawn code' R) : t.AtPlace code' := by
  obtain ⟨hframe, -, -⟩ := hstep
  rw [hframe]
  exact ⟨h.noReset, h.noStart, h.busy, rfl⟩

theorem State.AtPlace.loaded {s : State} {code : StageCode} (h : s.AtPlace code) : s.loaded.AtPlace 0x02#5 :=
  ⟨h.noReset, h.noStart, h.busy, rfl⟩

theorem State.AtPlace.stored {s : State} {code : StageCode} (h : s.AtPlace code) : s.stored.AtPlace 0x0F#5 :=
  ⟨h.noReset, h.noStart, h.busy, rfl⟩

theorem State.AtPlace.advance {s : State} {code : StageCode} (h : s.AtPlace code) :
    s.advance.AtPlace (loopTest s.advance.cur s.advance.len) :=
  ⟨h.noReset, h.noStart, h.busy, rfl⟩

theorem State.AtPlace.scale {s : State} {code : StageCode} (h : s.AtPlace code) : s.scale.AtPlace 0x04#5 :=
  h.laneStep (laneStep_scale (R := fun _ _ => True) (fun _ => trivial) s)

theorem State.AtPlace.expm {s : State} {code : StageCode} (h : s.AtPlace code) : s.expm.AtPlace 0x0E#5 :=
  h.laneStep (laneStep_expm (R := fun _ _ => True) fun _ _ => trivial)

theorem State.AtPlace.eachLane {s : State} {code : StageCode} (h : s.AtPlace code) (f : Lane → Lane)
    (code' : StageCode) : ((s.eachLane f).goto code').AtPlace code' :=
  ⟨h.noReset, h.noStart, h.busy, rfl⟩

theorem State.AtPlace.drawLanes {s : State} {code : StageCode} (h : s.AtPlace code) (f : Word → Lane → Lane)
    (code' : StageCode) : ((s.drawLanes f).goto code').AtPlace code' :=
  ⟨h.noReset, h.noStart, h.busy, rfl⟩

/-- `SR.SCALE` is its four parts (R115). -/
theorem State.AtPlace.runSteps_scale {s : State} (h : s.AtPlace 0x06#5) : runSteps 4 s = .next s.scale := by
  have hexpWord : s.index.AtPlace 0x07#5 := h.eachLane _ _
  have hfetch : s.index.expWord.AtPlace 0x08#5 := hexpWord.eachLane _ _
  have hpatch : s.index.expWord.fetchTable.AtPlace 0x09#5 := hfetch.eachLane _ _
  rw [h.runSteps_next .srIndex 3, hexpWord.runSteps_next .srExpw 2, hfetch.runSteps_next .lutFetch 1,
    hpatch.runSteps_next .xpPatch 0]
  rfl

/-- `LANE.EXPM` is its twelve parts (R160). -/
theorem State.AtPlace.runSteps_expm {s : State} (h : s.AtPlace 0x02#5) : runSteps 12 s = .next s.expm := by
  have hunbias : s.bias.AtPlace 0x03#5 := h.drawLanes _ _
  have hscale : s.bias.unbias.AtPlace 0x06#5 := hunbias.drawLanes _ _
  have hresHi : s.bias.unbias.scale.AtPlace 0x04#5 := hscale.scale
  have hresLo : s.bias.unbias.scale.resHi.AtPlace 0x05#5 := hresHi.drawLanes _ _
  have hmul : s.bias.unbias.scale.resHi.resLo.AtPlace 0x0A#5 := hresLo.drawLanes _ _
  have hcomb : s.bias.unbias.scale.resHi.resLo.mul.AtPlace 0x0B#5 := hmul.drawLanes _ _
  have hcmp : s.bias.unbias.scale.resHi.resLo.mul.comb.AtPlace 0x0C#5 := hcomb.drawLanes _ _
  have hmask : s.bias.unbias.scale.resHi.resLo.mul.comb.cmp.AtPlace 0x0D#5 := hcmp.eachLane _ _
  rw [h.runSteps_next .rrBias 11, hunbias.runSteps_next .rrUnbias 10, runSteps_add 4 6, hscale.runSteps_scale,
    andThen_next, hresHi.runSteps_next .rrReshi 5, hresLo.runSteps_next .rrReslo 4, hmul.runSteps_next .peMul 3,
    hcomb.runSteps_next .peComb 2, hcmp.runSteps_next .dcCmp 1, hmask.runSteps_next .dcMask 0]
  rfl

theorem andThen_congr {r : Result} {f g : State → Result} (h : ∀ u, r = .next u → f u = g u) :
    andThen r f = andThen r g := by
  cases r with
  | next u => exact h u rfl
  | fault | refused => rfl

/-- `VX.CHUNK` is the loads, the lane computation, the stores and `VX.NEXT` (R164), the stop of a load or a store
included. -/
theorem State.AtPlace.runSteps_chunk {s : State} (h : s.AtPlace 0x01#5) (hlt : s.cur < s.len) :
    runSteps 15 s = exec .vxChunk s := by
  have hexec : exec .vxChunk s = andThen s.loadChunk fun u => andThen u.expm.storeChunk fun v => .next v.advance :=
    if_pos ⟨h.busy, hlt⟩
  rw [hexec, h.runSteps_succ 14]
  refine andThen_congr fun u hu => ?_
  obtain ⟨rfl, -⟩ := State.loadChunk_eq_next.1 hu
  rw [show 14 = 12 + 2 from rfl, runSteps_add, h.loaded.runSteps_expm, andThen_next, h.loaded.expm.runSteps_succ 1]
  refine andThen_congr fun v hv => ?_
  obtain ⟨rfl, -⟩ := State.storeChunk_eq_next.1 hv
  exact h.loaded.expm.stored.runSteps_next .vxNext 0

/-- The first step of an invocation is `VX.START`. -/
theorem step_of_start {s : State} {l : Launch} (hreset : s.resetLine = false) (hstart : s.start = some l)
    (hfits : s.Fits l) : step s = exec (.vxStart l.len l.inBase l.outBase) s := by
  obtain ⟨hlen, hin, hout⟩ := hfits
  have hread := decode_encode_vxStart hlen hin hout []
  rw [List.append_nil] at hread
  simp [step, State.fetch, hreset, hstart, hread]

/-! ### The loop of chunks -/

/-- The state after so many whole chunks. -/
def State.afterChunks (s : State) : Nat → State
  | 0 => s
  | c + 1 => (s.afterChunks c).loaded.expm.stored.advance

/-- In a run every element of a chunk that is left may be accessed, so `VX.CHUNK` has a next state. -/
theorem State.Inv.exec_vxChunk {s : State} (h : s.Inv) (hbusy : s.busy = true) (hlt : s.cur < s.len) :
    exec .vxChunk s = .next s.loaded.expm.stored.advance := by
  have hrun := h.running hbusy
  have hle := hrun.cur_add_W_le hlt
  have hmem {i : Nat} (hi : i < s.W) : s.cur + i < s.invocation.len := show s.cur + i < s.len by omega
  exact execVxChunk_eq_next.2 ⟨hbusy, hlt,
    fun _ hi => State.readStop_eq_none_iff.2 (hrun.admitted.mayRead (hmem hi)),
    fun _ hi => State.writeStop_eq_none_iff.2 (hrun.admitted.mayWrite (hmem hi)), rfl⟩

theorem State.loaded_invocation (s : State) : s.loaded.invocation = s.invocation := rfl

theorem State.expm_invocation (s : State) : s.expm.invocation = s.invocation := by
  simp only [State.invocation, State.expm_len, State.expm_inBase, State.expm_outBase]

theorem State.stored_advance_invocation (s : State) : s.stored.advance.invocation = s.invocation := rfl

theorem State.stored_advance_W (s : State) : s.stored.advance.W = s.W := rfl

/-- What is so after `c` chunks of a run that began in `s`. -/
structure ChunkLoop (s : State) (c : Nat) (u : State) : Prop where
  steps : runSteps (15 * c) s = .next u
  inv : u.Inv
  place : u.AtPlace (loopTest u.cur u.len)
  cursor : u.cur = c * s.W
  invocation : u.invocation = s.invocation
  lanes : u.W = s.W

/-- One chunk more, as long as one is left. -/
theorem ChunkLoop.succ {s u : State} {c : Nat} (h : ChunkLoop s c u) (hc : (c + 1) * s.W ≤ s.len) :
    ChunkLoop s (c + 1) u.loaded.expm.stored.advance := by
  have hlen : u.len = s.len := congrArg Launch.len h.invocation
  have hlt : u.cur < u.len := by
    have := h.inv.lanes
    rw [h.lanes] at this
    rw [h.cursor, hlen]
    rw [Nat.succ_mul] at hc
    omega
  have hbusy := h.place.busy
  have hplace : u.AtPlace 0x01#5 := by simpa [loopTest, hlt] using h.place
  have hstep : exec .vxChunk u = .next u.loaded.expm.stored.advance := h.inv.exec_vxChunk hbusy hlt
  obtain ⟨hstored, hbusy', hlt'⟩ := h.inv.chunk_stored hbusy hlt
  obtain ⟨hcur, -, -⟩ := h.inv.chunk_moves hbusy hlt
  exact
    { steps := by rw [Nat.mul_succ, runSteps_add, h.steps, andThen_next, hplace.runSteps_chunk hlt, hstep]
      inv := hstored.advance hbusy' hlt'
      place := hplace.loaded.expm.stored.advance
      cursor := by rw [hcur, h.cursor, h.lanes, Nat.succ_mul]
      invocation := by
        rw [State.stored_advance_invocation, State.expm_invocation, State.loaded_invocation, h.invocation]
      lanes := by rw [State.stored_advance_W, State.expm_W, State.loaded_W, h.lanes] }

/-- The loop of R166, by induction on the chunks. -/
theorem State.Inv.chunkLoop {s : State} (h : s.Inv) (hplace : s.AtPlace (loopTest s.cur s.len)) (hcur : s.cur = 0)
    {c : Nat} (hc : c * s.W ≤ s.len) : ChunkLoop s c (s.afterChunks c) := by
  induction c with
  | zero => exact ⟨rfl, h, hplace, by rw [Nat.zero_mul]; exact hcur, rfl, rfl⟩
  | succ c ih => exact (ih (by rw [Nat.succ_mul] at hc; omega)).succ hc

/-- An admissible invocation runs from `VX.START` through its chunks to `VX.DONE` (R168). -/
theorem invocation_runSteps {s : State} {l : Launch} (hinv : s.Inv) (hreset : s.resetLine = false)
    (hidle : s.busy = false) (hstart : s.start = some l) (hadmissible : s.Admissible l) :
    ChunkLoop (s.launched l) (l.len / s.W) ((s.launched l).afterChunks (l.len / s.W)) ∧
      runSteps (15 * (l.len / s.W) + 2) s = .next ((s.launched l).afterChunks (l.len / s.W)).finished := by
  have hfits := hinv.tuple l hstart
  have hlen : l.len / s.W * s.W = l.len := Nat.div_mul_cancel hadmissible.lengthMultipleOfW
  have hlaunch : step s = .next (s.launched l) :=
    (step_of_start hreset hstart hfits).trans (exec_vxStart_eq_next.2 ⟨hfits, hidle, hadmissible, rfl⟩)
  have hloop : ChunkLoop (s.launched l) (l.len / s.W) ((s.launched l).afterChunks (l.len / s.W)) :=
    (hinv.launched hfits hadmissible).chunkLoop ⟨hreset, rfl, rfl, rfl⟩ rfl hlen.le
  refine ⟨hloop, ?_⟩
  generalize (s.launched l).afterChunks (l.len / s.W) = u at hloop ⊢
  have hend : u.cur = u.len := by
    rw [hloop.cursor, show u.len = l.len from congrArg Launch.len hloop.invocation]
    exact hlen
  have hdone : u.AtPlace 0x10#5 := by simpa [loopTest, hend] using hloop.place
  calc runSteps (15 * (l.len / s.W) + 1 + 1) s
      = runSteps (15 * (l.len / s.W) + 1) (s.launched l) := by rw [runSteps_succ, hlaunch, andThen_next]
    _ = runSteps (0 + 1) u := by rw [runSteps_add, hloop.steps, andThen_next]
    _ = .next u.finished := hdone.runSteps_next .vxDone 0 (execVxDone_eq_next.2 ⟨hdone.busy, hend, rfl⟩)

/-! ### The events of a run -/

theorem State.chunk_events (s : State) :
    s.loaded.expm.stored.advance.events =
      .stored (s.chunkAddrs s.outBase) :: .loaded (s.chunkAddrs s.inBase) :: s.events := by
  simp [State.chunkAddrs]

/-- Each chunk adds its loads and then its stores. -/
theorem State.Inv.afterChunks_events {s : State} (h : s.Inv) (hplace : s.AtPlace (loopTest s.cur s.len))
    (hcur : s.cur = 0) {c : Nat} (hc : c * s.W ≤ s.len) :
    (s.afterChunks c).events = (List.range c).reverse.flatMap (chunkEvents s.W s.invocation) ++ s.events := by
  induction c with
  | zero => rfl
  | succ c ih =>
    have hc' : c * s.W ≤ s.len := by rw [Nat.succ_mul] at hc; omega
    have hloop := h.chunkLoop hplace hcur hc'
    have hin : (s.afterChunks c).inBase = s.invocation.inBase := congrArg Launch.inBase hloop.invocation
    have hout : (s.afterChunks c).outBase = s.invocation.outBase := congrArg Launch.outBase hloop.invocation
    rw [State.afterChunks, State.chunk_events, ih hc', List.range_succ, List.reverse_append]
    simp [chunkEvents, State.chunkAddrs, elementAddr, hloop.cursor, hloop.lanes, hin, hout]

/-- Settles O21, by induction on the chunks. -/
theorem invocationEventHistory : Obligations.InvocationEventHistory := by
  intro s l hinv hreset hidle hstart hadmissible
  obtain ⟨-, hrun⟩ := invocation_runSteps hinv hreset hidle hstart hadmissible
  have hevents := (hinv.launched (hinv.tuple l hstart) hadmissible).afterChunks_events ⟨hreset, rfl, rfl, rfl⟩ rfl
    (Nat.div_mul_le_self l.len s.W)
  exact ⟨_, hrun, congrArg (Event.done :: ·) hevents⟩

end Sys2Proof.Machine
end

section
/-! SUPPORT. The lane computation as a function of its input (R160), and the element of an output that it gives (R168). -/

namespace Sys2Proof.Machine

open Binary32 (isNaN fma fmul fsub flt)

theorem isNaN_nanPattern (bits : BitVec 24) : isNaN (Binary32.nanPattern bits) = true := by
  rw [Binary32.isNaN_iff, Binary32.nanPattern, Binary32.pattern_withSign (by omega)]
  omega

theorem isNaN_drawnNaN (draw lane : Nat) : isNaN (drawnNaN draw lane) = true := isNaN_nanPattern _

/-- A register that takes a drawn NaN where its result is one holds the result. -/
theorem computes_getD {r : Option Word} {nan : Word} (hnan : isNaN nan = true) : Computes r (r.getD nan) := by
  cases r with
  | none => exact hnan
  | some v => exact rfl

theorem Computes.isNaN {r : Option Word} {w : Word} (h : Computes r w) (hr : r = none) : isNaN w = true := by
  subst hr
  exact h

/-- A result that is computed from a register, and is a NaN where the register holds one. -/
theorem Computes.bind {r : Option Word} {w out : Word} {g : Word → Option Word} (h : Computes r w)
    (hnan : Binary32.isNaN w = true → Binary32.isNaN out = true) (hg : Computes (g w) out) :
    Computes (r.bind g) out := by
  cases r with
  | none => exact hnan h
  | some v =>
    obtain rfl : w = v := h
    exact hg

/-- Registers that hold the results of R160's operations hold `F` in the end: a NaN that one of them draws goes through all
that follow it. -/
theorem laneF_computes {c1 : Config.Coefficient} {x nraw n t1 t p f : Word} (hnraw : Computes (fma x K_C K_B) nraw)
    (hn : Computes (fsub nraw K_B) n) (ht1 : Computes (fma n K_NHI x) t1) (ht : Computes (fma n K_NLO t1) t)
    (hp : Computes (fmul t (K_C1 c1)) p)
    (hf : Computes (fma (tableWord (indexOf nraw) + exponentWord nraw) p
      (tableWord (indexOf nraw) + exponentWord nraw)) f) : Computes (laneF c1 x) f := by
  have nan_f_of_p (h : isNaN p = true) : isNaN f = true := hf.isNaN (Binary32.fma_of_isNaN (.inr (.inl h)))
  have nan_f_of_t (h : isNaN t = true) : isNaN f = true :=
    nan_f_of_p (hp.isNaN (Binary32.fmul_of_isNaN (.inl h)))
  have nan_f_of_t1 (h : isNaN t1 = true) : isNaN f = true :=
    nan_f_of_t (ht.isNaN (Binary32.fma_of_isNaN (.inr (.inr h))))
  have nan_f_of_n (h : isNaN n = true) : isNaN f = true :=
    nan_f_of_t (ht.isNaN (Binary32.fma_of_isNaN (.inl h)))
  have nan_f_of_nraw (h : isNaN nraw = true) : isNaN f = true :=
    nan_f_of_n (hn.isNaN (Binary32.fsub_of_isNaN (.inl h)))
  exact hnraw.bind nan_f_of_nraw
    (hn.bind nan_f_of_n (ht1.bind nan_f_of_t1 (ht.bind nan_f_of_t (hp.bind nan_f_of_p hf))))

theorem clear_maskOf (f : Word) (below : Bool) : clear f (maskOf below) = if below then 0#32 else f := by
  unfold clear
  cases below
  · exact BitVec.and_allOnes
  · exact BitVec.and_zero

/-- `Y` after the whole lane computation is the function of `X` that R160 gives, whatever the lane held before. -/
theorem Lane.expm_computes (c1 : Config.Coefficient) {nan : Nat → Word} (hnan : ∀ d, isNaN (nan d) = true) (l : Lane) :
    Computes (laneY c1 l.x) (l.expm c1 nan).y := by
  have hf : Computes (laneF c1 l.x) (l.expm c1 nan).f :=
    laneF_computes (computes_getD (hnan 0)) (computes_getD (hnan 1)) (computes_getD (hnan 2)) (computes_getD (hnan 3))
      (computes_getD (hnan 4)) (computes_getD (hnan 5))
  have hy : (l.expm c1 nan).y = if flt l.x K_CUT then 0#32 else (l.expm c1 nan).f := clear_maskOf _ _
  rw [hy, laneY]
  split
  · exact rfl
  · exact hf

/-- An element of an output is computed from the element of the input (R168). -/
theorem State.computedWord_computes (s : State) (inBase draw i : Nat) :
    Computes (laneY s.params.c1 (s.mem.readWord (inBase + 4 * i))) (s.computedWord inBase draw i) :=
  Lane.expm_computes s.params.c1 (nan := fun d => drawnNaN (draw + d) i) (fun _ => isNaN_drawnNaN _ _)
    { Lane.zero with x := s.mem.readWord (inBase + 4 * i) }

end Sys2Proof.Machine
end

section
/-! SUPPORT and PROOFS. What the host and the invocations elsewhere do between steps: each move keeps the invariant, and
an invocation that ends elsewhere leaves the lane computation of its input in its output buffer. -/

namespace Sys2Proof.Machine

/-! ### Invocations that may run at once -/

theorem BuffersDisjoint.symm {a n b m : Nat} (h : BuffersDisjoint a n b m) : BuffersDisjoint b m a n :=
  fun i j hi hj heq => h j i hj hi heq.symm

theorem Apart.symm {l o : Launch} (h : Apart l o) : Apart o l := by
  obtain ⟨hin, hout, houts⟩ := h
  exact ⟨hout.symm, hin.symm, houts.symm⟩

/-! ### Moves of the host -/

/-- A run goes over to a state of the same block with the sequencer where it was. -/
theorem State.Runs.of_sameConfiguration {s t : State} (h : s.Runs) (hsame : SameConfiguration s t)
    (hinvocation : t.invocation = s.invocation) (hcur : t.cur = s.cur) (hstage : t.stage = s.stage) : t.Runs := by
  have hlen : t.len = s.len := congrArg Launch.len hinvocation
  exact ⟨hinvocation ▸ hsame.admissible h.admitted, by rw [hsame.lanes, hcur]; exact h.cursor,
    by rw [hcur, hlen]; exact h.bound, by rw [hcur, hlen, hstage]; exact h.place⟩

/-- The tuple is reduced as it is presented, so it fits (R68). -/
theorem State.Inv.hostStart {s : State} (h : s.Inv) (l : Launch) : (s.hostStart l).Inv := by
  have hsame : SameConfiguration s (s.hostStart l) := ⟨rfl, rfl, rfl, rfl, rfl⟩
  have hlt (v : Nat) : xlenBits s.params v < 2 ^ s.params.xlen := Nat.mod_lt _ (Nat.two_pow_pos _)
  refine h.of_sameConfiguration hsame h.memory h.space h.registers (fun l' hl' => ?_) h.masks
    fun hbusy => (h.running hbusy).of_sameConfiguration hsame rfl rfl rfl
  obtain rfl := Option.some.inj hl'
  exact ⟨hlt _, hlt _, hlt _⟩

theorem State.Inv.hostReset {s : State} (h : s.Inv) : s.hostReset.Inv :=
  have hsame : SameConfiguration s s.hostReset := ⟨rfl, rfl, rfl, rfl, rfl⟩
  h.of_sameConfiguration hsame h.memory h.space h.registers h.tuple h.masks
    fun hbusy => (h.running hbusy).of_sameConfiguration hsame rfl rfl rfl

theorem State.Inv.hostWrite {s t : State} {a : Nat} {v : Byte} (h : s.Inv) (hmove : s.hostWrite a v = some t) :
    t.Inv := by
  obtain ⟨ha, -, rfl⟩ := State.hostWrite_eq_some.1 hmove
  have hsame : SameConfiguration s { s with mem := s.mem.writeByte a v } := ⟨rfl, rfl, rfl, rfl, rfl⟩
  refine h.of_sameConfiguration hsame (Memory.writeByte_wf a v h.memory) (fun c hc => ?_) h.registers h.tuple h.masks
    fun hbusy => (h.running hbusy).of_sameConfiguration hsame rfl rfl rfl
  obtain rfl | hc := Memory.mem_writeByte hc
  · exact ha
  · exact h.space c hc

/-! ### Moves that change the grants or the invocations elsewhere -/

/-- Two states of one block with the same registers, the same place and the same tuple presented. -/
structure SameRegisters (s t : State) : Prop where
  params : t.params = s.params
  lanes : t.lanes = s.lanes
  invocation : t.invocation = s.invocation
  cur : t.cur = s.cur
  busy : t.busy = s.busy
  stage : t.stage = s.stage
  start : t.start = s.start

/-- A move that leaves the registers alone owes the invariant the memory and the invocations that run. -/
theorem State.Inv.of_sameRegisters {s t : State} (h : s.Inv) (hsame : SameRegisters s t) (memory : t.mem.wf = true)
    (space : ∀ c ∈ t.mem, c.1 < 2 ^ s.params.xlen)
    (elsewhere : ∀ o ∈ t.others, s.Fits o ∧ State.Admissible { t with others := [] } o)
    (apart : t.others.Pairwise Apart) (admitted : s.busy = true → t.Admissible s.invocation) : t.Inv := by
  have hfits (l : Launch) : t.Fits l ↔ s.Fits l := by rw [State.Fits, State.Fits, hsame.params]
  have hW : t.W = s.W := congrArg List.length hsame.lanes
  have hlen : t.len = s.len := congrArg Launch.len hsame.invocation
  exact
    { memory := memory
      space := by rw [hsame.params]; exact space
      lanes := hW ▸ h.lanes
      registers := by rw [hfits, hsame.invocation, hsame.cur, hsame.params]; exact h.registers
      tuple := fun l hl => (hfits l).2 (h.tuple l (hsame.start ▸ hl))
      masks := hsame.lanes ▸ h.masks
      elsewhere := fun o ho => (elsewhere o ho).imp_left (hfits o).2
      apart := apart
      running := fun hbusy => by
        have hbusy' : s.busy = true := hsame.busy ▸ hbusy
        have hrun := h.running hbusy'
        exact ⟨hsame.invocation ▸ admitted hbusy', by rw [hW, hsame.cur]; exact hrun.cursor,
          by rw [hsame.cur, hlen]; exact hrun.bound, by rw [hsame.cur, hlen, hsame.stage]; exact hrun.place⟩ }

/-- The host grants every running invocation its buffers (R212), so what was admissible stays so. -/
theorem State.Inv.hostGrants {s t : State} {r w : List Region} (h : s.Inv) (hmove : s.hostGrants r w = some t) :
    t.Inv := by
  obtain ⟨hgrants, rfl⟩ := State.hostGrants_eq_some.1 hmove
  refine h.of_sameRegisters ⟨rfl, rfl, rfl, rfl, rfl, rfl, rfl⟩ h.memory h.space (fun o ho => ?_) h.apart
    fun hbusy => ?_
  · obtain ⟨hfits, hadmissible⟩ := h.elsewhere o ho
    have hbuffers := hgrants o (State.mem_running.2 (.inr ho))
    exact ⟨hfits, hadmissible.lengthMultipleOfW, hadmissible.basesAligned, hadmissible.withinSpace,
      fun i hi => (hbuffers i hi).1, fun i hi => (hbuffers i hi).2, hadmissible.disjoint, List.forall_mem_nil _⟩
  · have hadmissible := (h.running hbusy).admitted
    have hbuffers := hgrants s.invocation (State.mem_running.2 (.inl ⟨hbusy, rfl⟩))
    exact ⟨hadmissible.lengthMultipleOfW, hadmissible.basesAligned, hadmissible.withinSpace,
      fun i hi => (hbuffers i hi).1, fun i hi => (hbuffers i hi).2, hadmissible.disjoint, hadmissible.noOther⟩

/-- An invocation begins elsewhere exactly where P1 to P8 of R162 hold there, and no reset is asserted. -/
theorem State.elsewhereStarts_eq_some {s t : State} {l : Launch} :
    s.elsewhereStarts l = some t ↔
      s.resetLine = false ∧ s.Fits l ∧ s.elsewhere.Admissible l ∧ t = { s with others := l :: s.others } := by
  refine ⟨State.elsewhereStarts_cases, ?_⟩
  rintro ⟨hreset, hfits, hadmissible, rfl⟩
  have hstart : execVxStart l.len l.inBase l.outBase s.elsewhere = .next (s.elsewhere.launched l) :=
    exec_vxStart_eq_next.2 ⟨hfits, rfl, hadmissible, rfl⟩
  simp only [State.elsewhereStarts, hreset, hstart, Bool.false_eq_true, if_false]

/-- P8 of R162 keeps the new invocation apart from those that run, the one of this block among them. -/
theorem State.Inv.elsewhereStarts {s t : State} {l : Launch} (h : s.Inv) (hmove : s.elsewhereStarts l = some t) :
    t.Inv := by
  obtain ⟨-, hfits, hadmissible, rfl⟩ := State.elsewhereStarts_eq_some.1 hmove
  obtain ⟨hadmissible, hown⟩ := State.elsewhere_admissible.1 hadmissible
  refine h.of_sameRegisters ⟨rfl, rfl, rfl, rfl, rfl, rfl, rfl⟩ h.memory h.space
    (List.forall_mem_cons.2 ⟨?_, h.elsewhere⟩) (List.pairwise_cons.2 ⟨hadmissible.noOther, h.apart⟩) fun hbusy => ?_
  · exact ⟨hfits, State.admissible_of_le hadmissible rfl rfl rfl rfl (List.forall_mem_nil _)⟩
  · have hrun := (h.running hbusy).admitted
    exact { hrun with noOther := List.forall_mem_cons.2 ⟨(hown hbusy).symm, hrun.noOther⟩ }

/-! ### The end of an invocation elsewhere -/

/-- The results of an invocation elsewhere, each with its address. -/
def State.elsewhereResults (s : State) (o : Launch) : List (Nat × Word) :=
  (List.range o.len).map fun i => (elementAddr o.outBase i, s.computedWord o.inBase s.draws i)

/-- The state after an invocation elsewhere has ended. -/
def State.elsewhereEnded (s : State) (o : Launch) : State :=
  { s with mem := s.mem.writeWords (s.elsewhereResults o), others := s.others.erase o, draws := s.draws + 6 }

theorem State.elsewhereEnds_eq_some {s t : State} {o : Launch} :
    s.elsewhereEnds o = some t ↔ s.resetLine = false ∧ o ∈ s.others ∧ t = s.elsewhereEnded o := by
  refine ⟨State.elsewhereEnds_cases, ?_⟩
  rintro ⟨hreset, ho, rfl⟩
  exact if_neg (by simp [hreset, ho])

theorem State.mem_elsewhereResults {s : State} {o : Launch} {e : Nat × Word} :
    e ∈ s.elsewhereResults o ↔ ∃ i, i < o.len ∧ e = (o.outBase + 4 * i, s.computedWord o.inBase s.draws i) := by
  simp [State.elsewhereResults, elementAddr, eq_comm]

theorem State.elsewhereResults_apart (s : State) (o : Launch) : (s.elsewhereResults o).Pairwise WordsApart := by
  rw [List.pairwise_iff_getElem]
  intro i j hi hj hij
  simp only [State.elsewhereResults, List.getElem_map, List.getElem_range, WordsApart, elementAddr]
  omega

/-- The results lie in the address space, since the invocation was admitted (P4 of R162). -/
theorem State.Inv.elsewhereEnds {s t : State} {o : Launch} (h : s.Inv) (hmove : s.elsewhereEnds o = some t) :
    t.Inv := by
  obtain ⟨-, ho, rfl⟩ := State.elsewhereEnds_eq_some.1 hmove
  refine h.of_sameRegisters ⟨rfl, rfl, rfl, rfl, rfl, rfl, rfl⟩ (Memory.writeWords_wf _ h.memory) (fun c hc => ?_)
    (fun o' ho' => ?_) (h.apart.sublist List.erase_sublist) fun hbusy => ?_
  · obtain ⟨e, he, -, hce⟩ | hc := Memory.mem_writeWords hc
    · obtain ⟨i, hi, rfl⟩ := State.mem_elsewhereResults.1 he
      obtain ⟨-, hspace⟩ := (h.elsewhere o ho).2.withinSpace
      simp only at hce hspace
      omega
    · exact h.space c hc
  · obtain ⟨hfits, hadmissible⟩ := h.elsewhere o' (List.mem_of_mem_erase ho')
    exact ⟨hfits, State.admissible_of_le hadmissible rfl rfl rfl rfl fun _ => id⟩
  · exact State.admissible_of_le (h.running hbusy).admitted rfl rfl rfl rfl fun _ => List.mem_of_mem_erase

/-- When an invocation elsewhere ends, its output buffer holds its results (R168). -/
theorem State.elsewhereEnded_computes {s : State} {o : Launch} (hw : s.mem.wf = true) {i : Nat} (hi : i < o.len) :
    Computes (laneY s.params.c1 (s.mem.readWord (o.inBase + 4 * i)))
      ((s.elsewhereEnded o).mem.readWord (o.outBase + 4 * i)) := by
  have hread : (s.elsewhereEnded o).mem.readWord (o.outBase + 4 * i) = s.computedWord o.inBase s.draws i :=
    Memory.readWord_writeWords hw (s.elsewhereResults_apart o) (State.mem_elsewhereResults.2 ⟨i, hi, rfl⟩)
  rw [hread]
  exact s.computedWord_computes o.inBase s.draws i

/-- And no other byte has changed. -/
theorem State.elsewhereEnded_readByte_outside {s : State} {o : Launch} (hw : s.mem.wf = true) {a : Nat}
    (hout : ¬ (o.outBase ≤ a ∧ a < o.outBase + 4 * o.len)) :
    (s.elsewhereEnded o).mem.readByte a = s.mem.readByte a := by
  refine Memory.readByte_writeWords_outside hw fun e he => ?_
  obtain ⟨i, hi, rfl⟩ := State.mem_elsewhereResults.1 he
  simp only
  omega

/-- Settles O11, move by move. -/
theorem hostMovesKeepTheInvariant : Obligations.HostMovesKeepTheInvariant := by
  intro s h
  refine ⟨h.hostStart, h.hostReset, fun _ _ _ => h.hostWrite, fun _ _ _ => h.hostGrants, fun r w t => ?grants,
    fun _ _ => h.elsewhereStarts, fun _ _ => h.elsewhereEnds, fun l t => ?starts, fun o hreset ho => ?ends⟩
  case grants => simp only [State.hostGrants_eq_some, State.mem_running]
  case starts => simp only [State.elsewhereStarts_eq_some, State.elsewhere_admissible, and_assoc]
  case ends =>
    exact ⟨s.elsewhereEnded o, State.elsewhereEnds_eq_some.2 ⟨hreset, ho, rfl⟩, rfl,
      fun _ => State.elsewhereEnded_computes h.memory, fun _ => State.elsewhereEnded_readByte_outside h.memory⟩

end Sys2Proof.Machine
end

section
/-! SUPPORT and PROOFS. The encoding: what `decode` answers by the first byte of its input, that an operand and a tuple
have one spelling in bytes, and the statements of 30_encoding.md. -/

namespace Sys2Proof

/-! ### Stage codes -/

/-- The rows of the operation map (R69), gathered. -/
theorem Instr.codeByte (i : Instr) : Laws.CodeByte.Statement i := by
  cases i with
  | vxStart len inBase outBase => exact Laws.CodeByte.vxStart len inBase outBase
  | vxLoad => exact Laws.CodeByte.vxLoad
  | rrBias => exact Laws.CodeByte.rrBias
  | rrUnbias => exact Laws.CodeByte.rrUnbias
  | rrReshi => exact Laws.CodeByte.rrReshi
  | rrReslo => exact Laws.CodeByte.rrReslo
  | srIndex => exact Laws.CodeByte.srIndex
  | srExpw => exact Laws.CodeByte.srExpw
  | lutFetch => exact Laws.CodeByte.lutFetch
  | xpPatch => exact Laws.CodeByte.xpPatch
  | peMul => exact Laws.CodeByte.peMul
  | peComb => exact Laws.CodeByte.peComb
  | dcCmp => exact Laws.CodeByte.dcCmp
  | dcMask => exact Laws.CodeByte.dcMask
  | vxStore => exact Laws.CodeByte.vxStore
  | vxNext => exact Laws.CodeByte.vxNext
  | vxDone => exact Laws.CodeByte.vxDone
  | srScale => exact Laws.CodeByte.srScale
  | laneExpm => exact Laws.CodeByte.laneExpm
  | vxChunk => exact Laws.CodeByte.vxChunk

theorem Instr.toNat_codeByte (i : Instr) : (i.stageCode.setWidth 8).toNat = i.stageCode.toNat :=
  BitVec.toNat_setWidth_of_le (by decide)

theorem le_of_ofStageCode {n : Nat} {i : Instr} (h : ofStageCode n = some i) : n ≤ 0x13 := by
  obtain ⟨hle, -⟩ := i.codeByte
  rwa [Machine.stageCode_of_ofStageCode h] at hle

/-- `0x00` is left to `VX.START`, which comes with its tuple (R68). -/
theorem ne_zero_of_ofStageCode {n : Nat} {i : Instr} (h : ofStageCode n = some i) : n ≠ 0 := by
  rintro rfl
  cases h

/-- An operation found by its code alone has no operand, so nothing of it can be too wide (R70). -/
theorem Instr.wellFormed_of_ofStageCode {n : Nat} {i : Instr} (h : ofStageCode n = some i) (xlen : Nat) :
    i.wellFormed xlen = true := by
  unfold ofStageCode at h
  split at h <;> cases h <;> rfl

/-- An operation found by its code alone is spelled by the code byte alone (R70). -/
theorem encode_of_ofStageCode {b : Byte} {i : Instr} (h : ofStageCode b.toNat = some i) (xlen : Nat) :
    encode xlen i = [b] := by
  have hcode := Machine.stageCode_of_ofStageCode h
  have hbyte : i.stageCode.setWidth 8 = b := BitVec.eq_of_toNat_eq (i.toNat_codeByte.trans hcode)
  obtain ⟨-, ⟨hzero, -⟩ | ⟨-, -, hoperands⟩⟩ := i.codeByte
  · exact absurd (hcode.symm.trans hzero) (ne_zero_of_ofStageCode h)
  · rw [encode, hbyte, hoperands]

/-! ### The decoder by its first byte -/

theorem decode_notAStageCode (xlen : Nat) {b : Byte} (bs : List Byte) (h : 0x20 ≤ b.toNat) :
    decode xlen (b :: bs) = .error (.notAStageCode b) := if_pos h

theorem decode_of_ofStageCode {b : Byte} {i : Instr} (h : ofStageCode b.toNat = some i) (xlen : Nat) (bs : List Byte) :
    decode xlen (b :: bs) = .ok (i, bs) := by
  have hle := le_of_ofStageCode h
  simp only [decode, if_neg (show ¬ 32 ≤ b.toNat by omega), if_neg (ne_zero_of_ofStageCode h), h]

/-- The codes above the map's last row name nothing (R69). -/
theorem decode_unassigned (xlen : Nat) {b : Byte} (bs : List Byte) (hlow : 0x14 ≤ b.toNat) (hhigh : b.toNat ≤ 0x1F) :
    decode xlen (b :: bs) = .error (.unassigned b) := by
  have hnone : ofStageCode b.toNat = none := by
    rw [Option.eq_none_iff_forall_ne_some]
    intro i h
    have hle := le_of_ofStageCode h
    omega
  simp only [decode, if_neg (show ¬ 32 ≤ b.toNat by omega), if_neg (show b.toNat ≠ 0 by omega), hnone]

/-- Only two kinds of first byte begin an operation: `0x00`, with the tuple of `VX.START` after it, and the code of an
operation without operands. -/
theorem decode_cons_eq_ok {xlen : Nat} {b : Byte} {bs rest : List Byte} {i : Instr}
    (h : decode xlen (b :: bs) = .ok (i, rest)) :
    (b = 0x00#8 ∧ decodeStart xlen bs = .ok (i, rest)) ∨ (ofStageCode b.toNat = some i ∧ bs = rest) := by
  by_cases hwide : 0x20 ≤ b.toNat
  · rw [decode_notAStageCode xlen bs hwide] at h
    cases h
  by_cases hzero : b.toNat = 0
  · obtain rfl : b = 0x00#8 := BitVec.eq_of_toNat_eq hzero
    exact .inl ⟨rfl, h⟩
  refine .inr ?_
  simp only [decode, if_neg hwide, if_neg hzero] at h
  split at h <;> cases h
  exact ⟨‹_›, rfl⟩

/-! ### Operands and tuples -/

/-- Bytes are the spelling of the number they stand for. -/
theorem leBytes_leValue (bs : List Byte) : leBytes bs.length (leValue bs) = bs := by
  induction bs with
  | nil => rfl
  | cons b bs ih =>
    have hb := b.isLt
    have hlow : BitVec.ofNat 8 (b.toNat + 256 * leValue bs) = b := by
      apply BitVec.eq_of_toNat_eq
      rw [BitVec.toNat_ofNat]
      omega
    have hhigh : (b.toNat + 256 * leValue bs) / 256 = leValue bs := by omega
    simp only [List.length_cons, leValue, leBytes, hlow, hhigh, ih]

/-- An operand taken off the front of bytes fits `XLEN` bits, and its bytes stood there. -/
theorem takeOperand_eq_ok {xlen v : Nat} {bs rest : List Byte} (h : takeOperand xlen bs = .ok (v, rest)) :
    v < 2 ^ xlen ∧ bs = leBytes (operandBytes xlen) v ++ rest := by
  unfold takeOperand at h
  split at h
  · cases h
  rename_i hlong
  split at h <;> cases h
  rename_i hfits
  have htake : (bs.take (operandBytes xlen)).length = operandBytes xlen := List.length_take_of_le (by omega)
  have hspelled := leBytes_leValue (bs.take (operandBytes xlen))
  rw [htake] at hspelled
  exact ⟨hfits, by rw [hspelled, List.take_append_drop]⟩

/-- A tuple read from bytes is one of `XLEN`-bit integers, and its bytes stood there. -/
theorem decodeStart_eq_ok {xlen : Nat} {bs rest : List Byte} {i : Instr} (h : decodeStart xlen bs = .ok (i, rest)) :
    i.wellFormed xlen = true ∧ 0x00#8 :: bs = encode xlen i ++ rest := by
  unfold decodeStart at h
  split at h
  · cases h
  rename_i len bs1 htakeLen
  split at h
  · cases h
  rename_i inBase bs2 htakeIn
  split at h <;> cases h
  rename_i outBase htakeOut
  obtain ⟨hlen, rfl⟩ := takeOperand_eq_ok htakeLen
  obtain ⟨hin, rfl⟩ := takeOperand_eq_ok htakeIn
  obtain ⟨hout, rfl⟩ := takeOperand_eq_ok htakeOut
  exact ⟨by simp [Instr.wellFormed, hlen, hin, hout], by simp [encode, Instr.stageCode, Instr.operands]⟩

/-! ### The round trip and its converse -/

theorem decode_encode {xlen : Nat} {i : Instr} (h : i.wellFormed xlen = true) (rest : List Byte) :
    decode xlen (encode xlen i ++ rest) = .ok (i, rest) := by
  obtain ⟨-, ⟨-, len, inBase, outBase, rfl⟩ | ⟨-, hcode, -⟩⟩ := i.codeByte
  · obtain ⟨⟨hlen, hin⟩, hout⟩ : (len < 2 ^ xlen ∧ inBase < 2 ^ xlen) ∧ outBase < 2 ^ xlen := by
      simpa [Instr.wellFormed] using h
    exact Machine.decode_encode_vxStart hlen hin hout rest
  · have hbyte : ofStageCode (i.stageCode.setWidth 8).toNat = some i := by rw [i.toNat_codeByte, hcode]
    rw [encode_of_ofStageCode hbyte]
    exact decode_of_ofStageCode hbyte xlen rest

/-- Settles O1. -/
theorem decodeEncodeRoundTrip : Obligations.DecodeEncodeRoundTrip := fun _ _ rest h => decode_encode h rest

/-- Settles O2, by the first byte. -/
theorem decodedBytesAreTheEncoding : Obligations.DecodedBytesAreTheEncoding := by
  intro xlen bytes i rest h
  cases bytes with
  | nil => cases h
  | cons b bs =>
    obtain ⟨rfl, hstart⟩ | ⟨hcode, rfl⟩ := decode_cons_eq_ok h
    · exact decodeStart_eq_ok hstart
    · exact ⟨Instr.wellFormed_of_ofStageCode hcode xlen, by rw [encode_of_ofStageCode hcode]; rfl⟩

/-! ### Written-out codes -/

/-- A table word whose bytes begin with an operation's is read as that operation, whatever follows. -/
theorem decodeTableWord_of_encode {nbits w : Nat} {i : Instr} (hwf : i.wellFormed Config.ref.xlen = true)
    (h : encode Config.ref.xlen i <+: leBytes (longest Config.ref.xlen) (w % 2 ^ nbits)) :
    decodeTableWord nbits w = some i := by
  obtain ⟨rest, hbytes⟩ := h
  rw [decodeTableWord, ← hbytes, decode_encode hwf]

/-- Settles O3: each word's bytes begin with the encoding of its operation. -/
theorem stageCodeWordsDecode : Obligations.StageCodeWordsDecode := by
  refine ⟨?start, ?bias, ?index, ?fetch, ?patch, ?comb, ?cmp, ?chunk⟩
  all_goals exact decodeTableWord_of_encode (by decide) (by decide)

/-- Settles O4. -/
theorem unassignedCodesNameNothing : Obligations.UnassignedCodesNameNothing :=
  fun xlen _ rest => ⟨decode_unassigned xlen rest, decode_notAStageCode xlen rest⟩

/-! ### The pseudo-operations -/

/-- Settles O19: each pseudo-operation is the run of its parts from the place of the first. -/
theorem pseudoOperationsExpand : Obligations.PseudoOperationsExpand := by
  intro s hreset hstart hbusy
  have hplace {code : StageCode} (hstage : s.stage = code) : s.AtPlace code := ⟨hreset, hstart, hbusy, hstage⟩
  exact ⟨fun hstage => (hplace hstage).runSteps_scale, fun hstage => (hplace hstage).runSteps_expm,
    fun hstage hlt => (hplace hstage).runSteps_chunk hlt⟩

end Sys2Proof
end

section
/-! SUPPORT and PROOFS. The Constant Table.  A word is strictly nearest to a real number that lies between the two midpoints
to the words next to it, `abs_val_sub_lt_of_between`.  For `2^(k/2048)` the 2048th power makes these two bounds comparisons
of natural numbers (`RoundsPower`), and the table is checked against them word by word. -/

namespace Sys2Proof.Machine.Binary32

/-! ### The words of sign 0, by their numbers -/

theorem units_eq_patternMagnitude {w : Word} (h : w.toNat < 2 ^ 31) : units w = patternMagnitude w.toNat := by
  have hsign : sign w = false := by rw [sign_eq, decide_eq_false_iff_not]; omega
  rw [units, hsign, magnitude_eq, pattern, Nat.mod_eq_of_lt h, if_neg Bool.false_ne_true]

theorem val_lt_val_of_toNat_lt {a b : Word} (hb : b.toNat < 2 ^ 31) (h : a.toNat < b.toNat) : val a < val b := by
  rw [val_lt_val_iff, units_eq_patternMagnitude hb, units_eq_patternMagnitude (h.trans hb), Nat.cast_lt]
  exact patternMagnitude_strictMono h

theorem val_le_val_of_toNat_le {a b : Word} (hb : b.toNat < 2 ^ 31) (h : a.toNat ≤ b.toNat) : val a ≤ val b := by
  rcases eq_or_lt_of_le h with h | h
  · rw [BitVec.eq_of_toNat_eq h]
  · exact (val_lt_val_of_toNat_lt hb h).le

/-- No value lies strictly between those of two words of sign 0 with consecutive numbers. -/
theorem val_le_or_val_ge {v w : Word} (hw : w.toNat < 2 ^ 31) (hvw : v.toNat + 1 = w.toNat) (u : Word) :
    val u ≤ val v ∨ val w ≤ val u := by
  rcases lt_or_ge u.toNat (2 ^ 31) with hu | hu
  · rcases Nat.lt_or_ge v.toNat u.toNat with h | h
    · exact .inr (val_le_val_of_toNat_le hu (by omega))
    · exact .inl (val_le_val_of_toNat_le (by omega) h)
  · have hsign : sign u = true := by rw [sign_eq, decide_eq_true hu]
    left
    rw [← not_lt, val_lt_val_iff, units_eq_patternMagnitude (by omega : v.toNat < 2 ^ 31), units, if_pos hsign]
    omega

/-- A word of sign 0 is strictly nearest to what lies between the midpoints to its two neighbours. -/
theorem abs_val_sub_lt_of_between {v w t : Word} {x : ℝ} (ht : t.toNat < 2 ^ 31) (hvw : v.toNat + 1 = w.toNat)
    (hwt : w.toNat + 1 = t.toNat) (hlow : (val v + val w : ℝ) < 2 * x) (hhigh : 2 * x < val w + val t) {u : Word}
    (hu : val u ≠ val w) : |(val w : ℝ) - x| < |(val u : ℝ) - x| := by
  have hv : (val v : ℝ) < val w := by exact_mod_cast val_lt_val_of_toNat_lt (by omega) (by omega)
  have hw : (val w : ℝ) < val t := by exact_mod_cast val_lt_val_of_toNat_lt (by omega) (by omega)
  have hside : val u ≤ val v ∨ val t ≤ val u := by
    rcases val_le_or_val_ge (by omega) hvw u with h | h
    · exact .inl h
    · refine .inr ((val_le_or_val_ge ht hwt u).resolve_left fun hle => hu (le_antisymm hle h))
  rcases hside with h | h
  · have hreal : (val u : ℝ) ≤ val v := by exact_mod_cast h
    rw [abs_of_neg (show (val u : ℝ) - x < 0 by linarith), abs_lt]
    constructor <;> linarith
  · have hreal : (val t : ℝ) ≤ val u := by exact_mod_cast h
    rw [abs_of_pos (show 0 < (val u : ℝ) - x by linarith), abs_lt]
    constructor <;> linarith

/-- From 1 to 2 the words count the multiples of `2^-23`. -/
theorem val_of_one_le {w : Word} {r : Nat} (hw : w.toNat = 126 * 2 ^ 23 + r) (hlow : 2 ^ 23 ≤ r) (hhigh : r ≤ 2 ^ 24) :
    val w = r / 2 ^ 23 := by
  rw [val_eq_units, units_eq_patternMagnitude (by omega), hw,
    patternMagnitude_of_isSignificand ⟨hhigh, .inr hlow⟩]
  push_cast
  rw [div_eq_div_iff (by positivity) (by positivity)]
  ring

end Sys2Proof.Machine.Binary32

namespace Sys2Proof.Machine

open Binary32

/-! ### The table is increasing -/

theorem tableWord_first : tableWord 0#11 = 0x3F800000#32 := by decide +kernel

theorem tableWord_middle : tableWord 1024#11 = 0x3FB504F3#32 := by decide +kernel

theorem tableWord_last : tableWord 2047#11 = 0x3FFFE9D3#32 := by decide +kernel

/-- The check of the table against R81, each word with the next. -/
theorem tableWords_zip_tail_increase :
    ((tableWords.zip tableWords.tail).all fun e => e.1.toNat < e.2.toNat) = true := by decide +kernel

theorem tableWords_pairwise_lt : tableWords.Pairwise fun a b => a.toNat < b.toNat := by
  have htrans : IsTrans Word fun a b => a.toNat < b.toNat := ⟨fun _ _ _ => Nat.lt_trans⟩
  refine List.isChain_iff_pairwise.mp (List.isChain_iff_getElem.mpr fun i hi => ?_)
  have hmem : (tableWords[i], tableWords[i + 1]) ∈ tableWords.zip tableWords.tail :=
    List.mem_iff_getElem.mpr ⟨i, by simp; omega, by simp⟩
  simpa using List.all_eq_true.mp tableWords_zip_tail_increase _ hmem

theorem tableWord_toNat_lt {j k : TableIndex} (h : j.toNat < k.toNat) : (tableWord j).toNat < (tableWord k).toNat :=
  List.pairwise_iff_getElem.mp tableWords_pairwise_lt _ _ _ _ h

theorem tableWord_toNat_le {j k : TableIndex} (h : j.toNat ≤ k.toNat) : (tableWord j).toNat ≤ (tableWord k).toNat := by
  rcases eq_or_lt_of_le h with h | h
  · rw [BitVec.eq_of_toNat_eq h]
  · exact (tableWord_toNat_lt h).le

/-- The first and the last word bound the others. -/
theorem tableWord_bounds (k : TableIndex) : 0x3F800000 ≤ (tableWord k).toNat ∧ (tableWord k).toNat ≤ 0x3FFFE9D3 := by
  have hfirst := tableWord_toNat_le (j := 0#11) (Nat.zero_le k.toNat)
  have hlast := tableWord_toNat_le (k := 2047#11) (Nat.le_pred_of_lt k.isLt)
  rw [tableWord_first] at hfirst
  rw [tableWord_last] at hlast
  exact ⟨hfirst, hlast⟩

/-- Settles O48: the words grow from one to the next, and the first and the last have the exponent field 127. -/
theorem tableIsIncreasing : Obligations.TableIsIncreasing := by
  refine ⟨tableWord_first, tableWord_last, tableWord_middle, fun j k h => ?_, fun k => ?_⟩
  · have hlt := tableWord_toNat_lt h
    have hk := (tableWord_bounds k).2
    exact ⟨hlt, val_lt_val_of_toNat_lt (by omega) hlt⟩
  · obtain ⟨hlow, hhigh⟩ := tableWord_bounds k
    rw [sign_eq, expf_eq, pattern, decide_eq_false_iff_not]
    omega

/-! ### The table holds roundings -/

/-- `r` multiples of `2^-23` are the rounding of `2^(k/2048)`: the bounds `(2r - 1)/2^24` and `(2r + 1)/2^24`, raised to the
2048th power. -/
abbrev RoundsPower (k r : Nat) : Prop :=
  (2 * r - 1) ^ 2048 < 2 ^ (24 * 2048 + k) ∧ 2 ^ (24 * 2048 + k) < (2 * r + 1) ^ 2048

/-- The 2048th power of `2^24 * 2^(k/2048)`. -/
theorem scaled_rpow_pow (k : Nat) : ((2 : ℝ) ^ 24 * 2 ^ ((k : ℝ) / 2048)) ^ 2048 = 2 ^ (24 * 2048 + k) := by
  have hroot : ((2 : ℝ) ^ ((k : ℝ) / 2048)) ^ 2048 = 2 ^ k := by
    rw [← Real.rpow_natCast, ← Real.rpow_mul (by norm_num), ← Real.rpow_natCast]
    congr 1
    push_cast
    ring
  rw [mul_pow, hroot, ← pow_mul, ← pow_add]

theorem natCast_lt_scaled_rpow_iff (c k : Nat) :
    (c : ℝ) < 2 ^ 24 * 2 ^ ((k : ℝ) / 2048) ↔ c ^ 2048 < 2 ^ (24 * 2048 + k) := by
  rw [← pow_lt_pow_iff_left₀ (Nat.cast_nonneg c) (by positivity) (show 2048 ≠ 0 by decide), scaled_rpow_pow]
  exact_mod_cast Iff.rfl

theorem scaled_rpow_lt_natCast_iff (c k : Nat) :
    (2 : ℝ) ^ 24 * 2 ^ ((k : ℝ) / 2048) < c ↔ 2 ^ (24 * 2048 + k) < c ^ 2048 := by
  rw [← pow_lt_pow_iff_left₀ (by positivity) (Nat.cast_nonneg c) (show 2048 ≠ 0 by decide), scaled_rpow_pow]
  exact_mod_cast Iff.rfl

theorem RoundsPower.between {k r : Nat} (h : RoundsPower k r) (hr : 0 < r) :
    (2 * r - 1 : ℝ) < 2 ^ 24 * 2 ^ ((k : ℝ) / 2048) ∧ (2 : ℝ) ^ 24 * 2 ^ ((k : ℝ) / 2048) < 2 * r + 1 := by
  rw [RoundsPower, ← natCast_lt_scaled_rpow_iff, ← scaled_rpow_lt_natCast_iff, Nat.cast_sub (by omega)] at h
  exact_mod_cast h

/-- The check of the table against R80, word by word. -/
theorem tableWords_all_roundsPower :
    (tableWords.zipIdx.all fun e => RoundsPower e.2 (e.1.toNat - 126 * 2 ^ 23)) = true := by decide +kernel

theorem tableWord_roundsPower {k : TableIndex} {r : Nat} (hr : (tableWord k).toNat = 126 * 2 ^ 23 + r) :
    RoundsPower k.toNat r := by
  have hmem : (tableWord k, k.toNat) ∈ tableWords.zipIdx :=
    List.mk_mem_zipIdx_iff_getElem?.mpr (List.getElem?_eq_getElem _)
  simpa only [decide_eq_true_eq, hr, Nat.add_sub_cancel_left] using List.all_eq_true.mp tableWords_all_roundsPower _ hmem

theorem val_one : val 0x3F800000#32 = 1 := by decide +kernel

/-- `2^(k/2048)` lies between the midpoints from `TABLE[k]` to its two neighbours.  Below `TABLE[0] = 1` the words are
denser, but there the power is 1 itself. -/
theorem tableWord_between (k : TableIndex) {v t : Word} (hv : v.toNat + 1 = (tableWord k).toNat)
    (ht : (tableWord k).toNat + 1 = t.toNat) :
    (val v + val (tableWord k) : ℝ) < 2 * 2 ^ ((k.toNat : ℝ) / 2048) ∧
      2 * (2 : ℝ) ^ ((k.toNat : ℝ) / 2048) < val (tableWord k) + val t := by
  obtain ⟨hmin, hmax⟩ := tableWord_bounds k
  obtain ⟨r, hr⟩ : ∃ r, (tableWord k).toNat = 126 * 2 ^ 23 + r := ⟨_, (Nat.add_sub_of_le (by omega)).symm⟩
  obtain ⟨hlow, hhigh⟩ := (tableWord_roundsPower hr).between (by omega)
  have hw : val (tableWord k) = r / 2 ^ 23 := val_of_one_le hr (by omega) (by omega)
  constructor
  · rcases Nat.eq_zero_or_pos k.toNat with h0 | hpos
    · have hone : val (tableWord k) = 1 := by
        rw [BitVec.eq_of_toNat_eq (x := k) (y := 0#11) h0, tableWord_first, val_one]
      have hlt : (val v : ℝ) < val (tableWord k) := by exact_mod_cast val_lt_val_of_toNat_lt (by omega) (by omega)
      rw [hone, Rat.cast_one] at hlt ⊢
      rw [h0, Nat.cast_zero, zero_div, Real.rpow_zero]
      linarith
    · have hfirst := tableWord_toNat_lt (j := 0#11) hpos
      simp only [tableWord_first, BitVec.toNat_ofNat] at hfirst
      have hval : val v = (r - 1 : ℕ) / 2 ^ 23 := val_of_one_le (by omega) (by omega) (by omega)
      rw [hval, hw, Nat.cast_sub (by omega)]
      push_cast
      linarith
  · have hval : val t = (r + 1 : ℕ) / 2 ^ 23 := val_of_one_le (by omega) (by omega) (by omega)
    rw [hval, hw]
    push_cast
    linarith

/-- Settles O47: the power lies between the midpoints around its table word. -/
theorem tableWordsAreNearest : Obligations.TableWordsAreNearest := by
  intro k
  obtain ⟨hmin, hmax⟩ := tableWord_bounds k
  have hv : (tableWord k - 1#32).toNat + 1 = (tableWord k).toNat := by bv_omega
  have ht : (tableWord k).toNat + 1 = (tableWord k + 1#32).toNat := by bv_omega
  obtain ⟨hlow, hhigh⟩ := tableWord_between k hv ht
  refine ⟨?_, fun u _ hu => abs_val_sub_lt_of_between (by omega) hv ht hlow hhigh hu⟩
  rw [isFinite_iff, pattern]
  omega

end Sys2Proof.Machine
end

section
/-! SUPPORT and PROOFS. The Range Reducer (41_range_reducer_ln2.md).  In the binade of unit spacing a word is
`0x4A800000` plus its value, so the biased sum's rounding is one to the nearest integer, and the subtraction of the
bias is exact, since integers below `2^24` are words. -/

namespace Sys2Proof.Machine.Binary32

/-! ### Words by scale and significand -/

theorem units_of_isSignificand {w : Word} {k r : Nat} (hsign : w.toNat < 2 ^ 31) (hw : w.toNat = k * 2 ^ 23 + r)
    (hr : IsSignificand k r) : units w = r * 2 ^ k := by
  rw [units_eq_patternMagnitude hsign, hw, patternMagnitude_of_isSignificand hr]
  push_cast
  rfl

/-- From `2^11` to `2^12` the words count the multiples of `2^-12`. -/
theorem val_of_two_pow_eleven_le {w : Word} {r : Nat} (hw : w.toNat = 137 * 2 ^ 23 + r) (hlow : 2 ^ 23 ≤ r)
    (hhigh : r ≤ 2 ^ 24) : val w = r / 4096 := by
  rw [val_eq_units, units_of_isSignificand (by omega) hw ⟨hhigh, .inr hlow⟩]
  push_cast
  rw [div_eq_div_iff (by positivity) (by positivity)]
  ring

/-- `r` is the value of the word `w` in the binade of unit spacing, from `2^23` on, its end included. -/
structure IsUnitBinade (w : Word) (r : Nat) : Prop where
  toNat_eq : w.toNat = 149 * 2 ^ 23 + r
  low : 2 ^ 23 ≤ r
  high : r ≤ 2 ^ 24

theorem IsUnitBinade.units_eq {w : Word} {r : Nat} (h : IsUnitBinade w r) : units w = r * 2 ^ 149 :=
  units_of_isSignificand (by have := h.toNat_eq; have := h.high; omega) h.toNat_eq ⟨h.high, .inr h.low⟩

theorem IsUnitBinade.val_eq {w : Word} {r : Nat} (h : IsUnitBinade w r) : val w = r := by
  rw [val_eq_units, h.units_eq, Int.cast_mul, Int.cast_pow, Int.cast_ofNat, Int.cast_natCast,
    mul_div_cancel_right₀ _ (by positivity)]

theorem IsUnitBinade.isFinite {w : Word} {r : Nat} (h : IsUnitBinade w r) : isFinite w = true := by
  obtain ⟨hw, hlow, hhigh⟩ := h
  rw [isFinite_iff, pattern]
  omega

theorem IsUnitBinade.sign {w : Word} {r : Nat} (h : IsUnitBinade w r) : sign w = false := by
  obtain ⟨hw, hlow, hhigh⟩ := h
  rw [sign_eq, decide_eq_false_iff_not]
  omega

/-! ### Rounding to an integer -/

/-- Nearest rounding of a quotient as a fact about integers. -/
theorem isRoundEven_div_iff {v b r : ℤ} (hb : 0 < b) :
    IsRoundEven ((v : ℚ) / b) r ↔ 2 * |r * b - v| ≤ b ∧ (2 * |r * b - v| = b → r % 2 = 0) := by
  have hpos : (0 : ℚ) < b := by exact_mod_cast hb
  have hdist : |(v : ℚ) / b - r| = (|r * b - v| : ℤ) / b := by
    rw [div_sub' hpos.ne', abs_div, abs_of_pos hpos, abs_sub_comm, Int.cast_abs]
    push_cast
    rw [mul_comm]
  rw [IsRoundEven, hdist, div_le_div_iff₀ hpos two_pos, div_eq_div_iff hpos.ne' two_ne_zero, mul_comm, one_mul]
  norm_cast

/-- `roundShift` rounds the quotient to the nearest integer, a tie to the even one. -/
theorem isRoundEven_roundShift (n d : Nat) : IsRoundEven (((n : ℤ) : ℚ) / ((2 ^ d : ℕ) : ℤ)) (roundShift n d) := by
  have hpos := Nat.two_pow_pos d
  have hs := Nat.mod_lt n hpos
  have hn : ((2 ^ d : ℕ) : ℤ) * (n / 2 ^ d : ℕ) + (n % 2 ^ d : ℕ) = n := by exact_mod_cast Nat.div_add_mod n (2 ^ d)
  have hdist := distance_to_multiple (B := (2 ^ d : ℕ)) (q := (n / 2 ^ d : ℕ)) (s := (n % 2 ^ d : ℕ)) (by omega)
    (by omega) (roundShift n d)
  rw [hn] at hdist
  have hcases := roundShift_cases n d
  rw [isRoundEven_div_iff (by omega)]
  omega

theorem dropped_of_bounds {n d : Nat} (hd : 149 ≤ d) (hlow : 2 ^ 23 * 2 ^ d ≤ n) (hhigh : n < 2 ^ 24 * 2 ^ d) :
    dropped n = d := by
  rw [← pow_add] at hlow hhigh
  have hn : n ≠ 0 := by have := Nat.two_pow_pos (23 + d); omega
  have hlog : n.log2 = 23 + d := (Nat.log2_eq_iff hn).mpr ⟨hlow, by rwa [show 23 + d + 1 = 24 + d by omega]⟩
  unfold dropped
  omega

/-- A magnitude of the unit binade is rounded to a multiple of the unit, half an integer below `2^24` still below it. -/
theorem roundPattern_in_unit_binade {n : Nat} (hlow : 2 ^ 23 * 2 ^ (149 + 149) ≤ n)
    (hhigh : 2 * n < (2 ^ 25 - 1) * 2 ^ (149 + 149)) :
    roundPattern n = 149 * 2 ^ 23 + roundShift n (149 + 149) ∧ 2 ^ 23 ≤ roundShift n (149 + 149) ∧
      roundShift n (149 + 149) < 2 ^ 24 := by
  have hdropped : dropped n = 149 + 149 := dropped_of_bounds (by decide) hlow (by omega)
  have hcases := roundShift_cases n (149 + 149)
  rw [roundPattern_eq, unboundedPattern, hdropped]
  omega

/-- Between `2^23` and half an integer below `2^24`, rounding is to the nearest integer, a tie to the even one. -/
theorem round_in_unit_binade (zeroSign : Bool) {v : ℤ} (hlow : 2 ^ 23 ≤ v / fineScale)
    (hhigh : v / fineScale < 2 ^ 24 - 1 / 2) :
    ∃ r : ℕ, IsUnitBinade (round zeroSign v) r ∧ r < 2 ^ 24 ∧ IsRoundEven (v / fineScale) r := by
  obtain ⟨b, hb⟩ : ∃ b, b = 2 ^ (149 + 149) := ⟨_, rfl⟩
  have hscale : fineScale = (b : ℤ) := by
    rw [hb, fineScale, ← pow_add, Int.cast_natCast, Nat.cast_pow, Nat.cast_ofNat]
  rw [le_div_iff₀ fineScale_pos, hscale] at hlow
  rw [div_lt_iff₀ fineScale_pos, hscale] at hhigh
  have hlow' : 2 ^ 23 * (b : ℤ) ≤ v := by exact_mod_cast hlow
  have hhigh' : 2 * v < (2 ^ 25 - 1) * (b : ℤ) := by
    rw [← Int.cast_lt (R := ℚ)]
    push_cast at hhigh ⊢
    linarith
  obtain ⟨n, rfl⟩ : ∃ n : ℕ, v = n := Int.eq_ofNat_of_zero_le (by omega)
  obtain ⟨hpattern, hmin, hmax⟩ := roundPattern_in_unit_binade (n := n) (by omega) (by omega)
  refine ⟨roundShift n (149 + 149), ⟨?_, hmin, hmax.le⟩, hmax, ?_⟩
  · rw [round_eq_withSign, toNat_withSign (roundPattern_lt _), Int.natAbs_natCast, hpattern, resultSign,
      if_neg (by omega : (n : ℤ) ≠ 0), decide_eq_false (by omega), if_neg Bool.false_ne_true]
  · rw [hscale, hb]
    exact isRoundEven_roundShift n (149 + 149)

/-! ### Exact results -/

/-- A multiple of the unit that it is rounded to is not changed. -/
theorem fineUnits_round_of_dvd (zeroSign : Bool) {v : ℤ} (hlt : v.natAbs < overflowThreshold)
    (hdvd : 2 ^ dropped v.natAbs ∣ v.natAbs) : fineUnits (round zeroSign v) = v := by
  have hshift : roundShift v.natAbs (dropped v.natAbs) * 2 ^ dropped v.natAbs = v.natAbs := by
    simp [roundShift, Nat.mod_eq_zero_of_dvd hdvd, Nat.div_mul_cancel hdvd, (Nat.two_pow_pos _).ne]
  rw [fineUnits_eq, sign_round, pattern_round, (roundPattern_of_lt hlt).1, fineMagnitude_unboundedPattern, hshift,
    resultSign]
  rcases lt_trichotomy v 0 with hv | rfl | hv
  · rw [if_neg hv.ne, if_pos (decide_eq_true hv)]
    omega
  · simp
  · rw [if_neg hv.ne', decide_eq_false hv.not_gt, if_neg Bool.false_ne_true]
    omega

/-- What has at most 24 bits above the lowest `d` is a multiple of the unit that it is rounded to. -/
theorem two_pow_dropped_dvd {m d : Nat} (hm : m < 2 ^ 24) (hd : 149 ≤ d) : 2 ^ dropped (m * 2 ^ d) ∣ m * 2 ^ d := by
  suffices hle : dropped (m * 2 ^ d) ≤ d from (pow_dvd_pow 2 hle).mul_left m
  rcases (dropped_cases (m * 2 ^ d)).2 with h | ⟨-, h⟩
  · omega
  · have hlt : 2 ^ (23 + dropped (m * 2 ^ d)) < 2 ^ (24 + d) := by
      rw [pow_add, pow_add]
      exact h.trans_lt (Nat.mul_lt_mul_of_pos_right hm (Nat.two_pow_pos d))
    have := (Nat.pow_lt_pow_iff_right (by decide)).mp hlt
    omega

/-- Integers of at most 24 bits are words. -/
theorem round_integer (zeroSign : Bool) {j : ℤ} (hj : j.natAbs < 2 ^ 24) :
    isFinite (round zeroSign (j * (2 ^ 149 * 2 ^ 149))) = true ∧ val (round zeroSign (j * (2 ^ 149 * 2 ^ 149))) = j := by
  have habs : (j * (2 ^ 149 * 2 ^ 149)).natAbs = j.natAbs * (2 ^ 149 * 2 ^ 149) := Int.natAbs_mul _ _
  have hlt : (j * (2 ^ 149 * 2 ^ 149)).natAbs < overflowThreshold := by
    rw [habs, overflowThreshold]
    omega
  refine ⟨isFinite_round _ hlt, ?_⟩
  rw [val_eq_fineUnits, fineUnits_round_of_dvd _ hlt, div_eq_iff fineScale_pos.ne', fineScale]
  · norm_num
  · rw [habs, ← pow_add]
    exact two_pow_dropped_dvd hj (by decide)

end Sys2Proof.Machine.Binary32

namespace Sys2Proof.Machine

open Binary32

/-! ### The operations -/

/-- A floating-point operation on every lane, whose result is a drawn NaN where it is one. -/
theorem laneStep_drawLanes_of_isNaN {R : Lane → Lane → Prop} {f : Word → Lane → Lane}
    (hR : ∀ nan l, isNaN nan = true → R l (f nan l)) (s : State) (code : StageCode) :
    LaneStep s ((s.drawLanes f).goto code) 1 code R :=
  laneStep_of_mapIdx (fun i => f (drawnNaN s.draws i)) rfl rfl fun i l => hR _ l (isNaN_drawnNaN s.draws i)

/-- Settles O33: each operation is an update of one register of each lane by its result or a drawn NaN. -/
theorem rangeReducerOperations : Obligations.RangeReducerOperations := fun s =>
  ⟨⟨s.bias, rfl, laneStep_drawLanes_of_isNaN (fun _ _ hnan => ⟨rfl, computes_getD hnan⟩) s _⟩,
    ⟨s.unbias, rfl, laneStep_drawLanes_of_isNaN (fun _ _ hnan => ⟨rfl, computes_getD hnan⟩) s _⟩,
    ⟨s.resHi, rfl, laneStep_drawLanes_of_isNaN (fun _ _ hnan => ⟨rfl, computes_getD hnan⟩) s _⟩,
    ⟨s.resLo, rfl, laneStep_drawLanes_of_isNaN (fun _ _ hnan => ⟨rfl, computes_getD hnan⟩) s _⟩⟩

/-! ### The constants -/

theorem val_K_C : val K_C = 12102203 / 4096 :=
  val_of_two_pow_eleven_le (r := 12102203) rfl (by decide) (by decide)

/-- `2048/ln 2` lies between the midpoints from `K_C` to its two neighbours. -/
theorem two_mul_scale_bounds :
    (24204405 / 4096 : ℝ) < 2 * (2048 / Real.log 2) ∧ 2 * (2048 / Real.log 2) < (24204407 / 4096 : ℝ) := by
  have hlow := Real.log_two_gt_d9
  have hhigh := Real.log_two_lt_d9
  rw [← mul_div_assoc, lt_div_iff₀ (by linarith), div_lt_iff₀ (by linarith)]
  constructor <;> linarith

/-- Settles O49: `2048/ln 2` lies between the midpoints around `K_C`. -/
theorem scaleConstantIsNearest : Obligations.ScaleConstantIsNearest := by
  refine ⟨rfl, val_K_C, fun u _ hu => ?_⟩
  obtain ⟨hlow, hhigh⟩ := two_mul_scale_bounds
  have hv : val 0x4538AA3A#32 = (12102202 : ℕ) / 4096 := val_of_two_pow_eleven_le rfl (by decide) (by decide)
  have ht : val 0x4538AA3C#32 = (12102204 : ℕ) / 4096 := val_of_two_pow_eleven_le rfl (by decide) (by decide)
  refine abs_val_sub_lt_of_between (v := 0x4538AA3A#32) (t := 0x4538AA3C#32) (by decide) rfl rfl ?_ ?_ hu
  · rw [hv, val_K_C]
    push_cast
    linarith
  · rw [ht, val_K_C]
    push_cast
    linarith

/-! ### In range -/

theorem isUnitBinade_K_B : IsUnitBinade K_B 12582912 := ⟨rfl, by decide, by decide⟩

theorem val_K_CUT : val K_CUT = -0x15D589E / 2 ^ 18 := by decide +kernel

/-- An even bias moves nearest integers, and keeps what a tie goes to. -/
theorem IsRoundEven.of_add {q : ℚ} {n c : ℤ} (h : IsRoundEven (q + c) (n + c)) (hc : c % 2 = 0) : IsRoundEven q n := by
  obtain ⟨hle, htie⟩ := h
  rw [Int.cast_add, add_sub_add_right_eq_sub] at hle htie
  exact ⟨hle, fun heq => by have := htie heq; omega⟩

/-- The biased sum in range: an integer of the unit binade, the nearest to `x*Cv` with the bias (R93 (a), (b)). -/
theorem exists_biasedSum {x : Word} (hx : isFinite x = true) (hlow : -2 ^ 22 ≤ val x * val K_C)
    (hhigh : val x * val K_C < 2 ^ 22 - 1 / 2) :
    ∃ (nraw : Word) (r : ℕ), fma x K_C K_B = some nraw ∧ IsUnitBinade nraw r ∧ r < 2 ^ 24 ∧
      IsRoundEven (val x * val K_C) (r - 12582912) := by
  obtain ⟨zeroSign, v, hfma, hv⟩ : ∃ zeroSign v, fma x K_C K_B = some (Binary32.round zeroSign v) ∧
      (v : ℚ) / fineScale = val x * val K_C + 12582912 :=
    ⟨_, _, fma_of_isFinite hx (by decide) (by decide), by
      rw [← val_mul_add_val, isUnitBinade_K_B.val_eq, Nat.cast_ofNat]⟩
  obtain ⟨r, hr, hlt, hround⟩ := round_in_unit_binade zeroSign (v := v) (by linarith) (by linarith)
  refine ⟨_, r, hfma, hr, hlt, .of_add (c := 12582912) ?_ (by decide)⟩
  rwa [sub_add_cancel, Int.cast_ofNat, ← hv]

/-- The bias is subtracted without rounding (R93 (d)). -/
theorem fsub_bias {nraw : Word} {r : ℕ} (h : IsUnitBinade nraw r) :
    fsub nraw K_B = some (Binary32.round false (((r : ℤ) - 12582912) * (2 ^ 149 * 2 ^ 149))) := by
  rw [fsub_of_isFinite h.isFinite (by decide), h.sign, Bool.false_and, fineUnits, fineUnits, h.units_eq,
    isUnitBinade_K_B.units_eq]
  congr 2
  push_cast
  ring

/-- In the normal domain `x*Cv` is at most 0 and nearer to `-258048` than to any integer below it (R93). -/
theorem IsRoundEven.bounds_of_normalDomain {x : Word} {nint : ℤ} (h : IsRoundEven (val x * val K_C) nint)
    (hcut : val K_CUT ≤ val x) (hzero : val x ≤ 0) : -258048 ≤ nint ∧ nint ≤ 0 := by
  obtain ⟨hlow, hhigh⟩ := abs_le.mp h.1
  rw [val_K_C] at hlow hhigh
  rw [val_K_CUT] at hcut
  constructor
  · rw [← Int.sub_one_lt_iff, ← Int.cast_lt (R := ℚ)]
    push_cast
    linarith
  · rw [← Int.lt_add_one_iff, ← Int.cast_lt (R := ℚ)]
    push_cast
    linarith

/-- Settles O51: the biased sum is `12582912 + Nint` in the unit binade, and the bias is subtracted exactly. -/
theorem inRangeIdentities : Obligations.InRangeIdentities := by
  refine ⟨by rw [val_K_C]; norm_num, fun x _ hx => ?_, fun x hx hlow hhigh => ?_⟩
  · obtain ⟨hlow, hhigh⟩ := abs_le.mp hx
    rw [val_K_C]
    constructor <;> linarith
  · obtain ⟨nraw, r, hfma, hr, hlt, hround⟩ := exists_biasedSum hx hlow hhigh
    have hmin := hr.low
    have htoNat := hr.toNat_eq
    obtain ⟨hfinite, hval⟩ := round_integer false (j := r - 12582912) (by omega)
    refine ⟨r - 12582912, nraw, _, hfma, fsub_bias hr, hr.isFinite, ?_, ?_, hround, ?_, by omega, by omega, by omega,
      hfinite, hval, fun h0 => ?_, hround.bounds_of_normalDomain⟩
    · rw [hr.val_eq]
      exact_mod_cast hmin
    · rw [hr.val_eq, le_sub_iff_add_le]
      exact_mod_cast hlt
    · rw [hr.val_eq]
      push_cast
      ring
    · rw [h0, zero_mul]
      rfl

end Sys2Proof.Machine
end

section
/-! SUPPORT and PROOFS. The Scale Reconstructor (42_scale_reconstructor_exponent.md).  The index and the exponent word
are a remainder and a quotient of the pattern of `NRAW`; in range that pattern is `0x4B000000 + 2048*(2048 + e) + k`, so
they are those of `Nint`. -/

namespace Sys2Proof.Machine

/-! ### The fields of a pattern as numbers -/

/-- `w[i+n-1:i]` as a number. -/
theorem toNat_field (w : Word) (i n : Nat) : (w.extractLsb' i n).toNat = w.toNat / 2 ^ i % 2 ^ n := by
  rw [BitVec.extractLsb'_toNat, Nat.shiftRight_eq_div_pow]

/-- The index is the pattern modulo the size of the table (R112). -/
theorem toNat_indexOf (w : Word) : (indexOf w).toNat = w.toNat % 2048 := by
  have hmask : w.toNat &&& 0x7FF = w.toNat % 2048 := Nat.and_two_pow_sub_one_eq_mod w.toNat 11
  rw [indexOf, BitVec.toNat_setWidth, BitVec.toNat_and]
  exact (congrArg (· % 2048) hmask).trans (Nat.mod_mod _ _)

/-- The exponent word is bits 19..11 of the pattern, placed at bit 23 (R113). -/
theorem toNat_exponentWord (w : Word) : (exponentWord w).toNat = (w.extractLsb' 11 9).toNat * 2 ^ 23 := by
  rw [exponentWord, BitVec.toNat_append, Nat.shiftLeft_eq]
  exact Nat.or_zero _

/-- The exponent word is bits 31..11 shifted left by 23 in 32 bits (R113). -/
theorem toNat_exponentWord_eq_shift (w : Word) :
    (exponentWord w).toNat = w.toNat / 2 ^ 11 * 2 ^ 23 % 2 ^ 32 := by
  rw [toNat_exponentWord, toNat_field]
  omega

theorem getElem?_tableWords (k : TableIndex) : tableWords[k.toNat]? = some (tableWord k) :=
  List.getElem?_eq_getElem _

/-! ### The operations -/

/-- Settles O34: each operation updates its registers in every lane, by the index, the exponent word, the table word
and their sum modulo `2^32`. -/
theorem scaleReconstructorOperations : Obligations.ScaleReconstructorOperations := fun s =>
  ⟨⟨s.index, rfl, laneStep_eachLane (fun a => ⟨rfl, toNat_indexOf a.nraw⟩) s _⟩,
    ⟨s.expWord, rfl, laneStep_eachLane (fun a => ⟨rfl, toNat_exponentWord_eq_shift a.nraw⟩) s _⟩,
    ⟨s.fetchTable, rfl, laneStep_eachLane (fun a => ⟨rfl, getElem?_tableWords a.k⟩) s _⟩,
    ⟨s.patch, rfl, laneStep_eachLane (fun a => ⟨rfl, BitVec.toNat_add a.l a.ew⟩) s _⟩,
    ⟨s.scale, rfl, laneStep_scale (fun a => ⟨rfl, toNat_indexOf a.nraw, toNat_exponentWord_eq_shift a.nraw,
      getElem?_tableWords (indexOf a.nraw),
      BitVec.toNat_add (tableWord (indexOf a.nraw)) (exponentWord a.nraw)⟩) s⟩⟩

/-! ### In range -/

/-- Settles O52: `0x4B000000` is a multiple of `2^20`, so below bit 20 the pattern is `2048*(2048 + e) + k`, and the
2048 that is added to `e` is lost modulo 512. -/
theorem indexAndQuotientInRange : Obligations.IndexAndQuotientInRange := by
  intro w nint e k hw hlow hhigh hnint hk hk'
  have hpattern : (w.toNat : ℤ) = 0x4B000000 + 2048 * (2048 + e) + k := by omega
  have hfield : ((w.extractLsb' 11 12).toNat : ℤ) = 2048 + e := by
    rw [toNat_field]
    omega
  have hquotient : ((w.extractLsb' 11 9).toNat : ℤ) = e % 512 := by
    rw [toNat_field]
    omega
  have hbias : (2048 + e) % 512 = e % 512 := by omega
  refine ⟨by omega, by omega, hpattern, ?_, by omega, hfield, hquotient.trans hbias.symm, hbias, ?_, by omega,
    fun _ _ => by omega⟩
  · rw [toNat_indexOf]
    omega
  · rw [toNat_exponentWord, Nat.cast_mul, hquotient, Nat.cast_pow, Nat.cast_ofNat]

end Sys2Proof.Machine
end

section
/-! SUPPORT and PROOFS. The exponent patcher (43_ieee754_exponent_patcher.md).  An exponent word is a multiple of `2^23`,
so the patch adds in the upper nine bits alone, modulo 512; the sign and the exponent field of `S` are the quotient and
the remainder of that sum by 256, and all of R127 and R128 is read off it. -/

namespace Sys2Proof.Machine.Binary32

/-! ### The upper nine bits of a word -/

theorem sign_eq_upper (w : Word) : sign w = decide (256 ≤ w.toNat / 2 ^ 23) := by
  rw [sign_eq, decide_eq_decide]
  omega

theorem expf_eq_upper (w : Word) : expf w = w.toNat / 2 ^ 23 % 256 := by
  rw [expf_eq, pattern]
  omega

theorem frac_eq_lower (w : Word) : frac w = w.toNat % 2 ^ 23 := by
  rw [frac_eq, pattern]
  omega

/-- The upper nine bits and the fraction make the word. -/
theorem toNat_eq_upper_frac (w : Word) : w.toNat = 2 ^ 23 * (w.toNat / 2 ^ 23) + frac w := by
  rw [frac_eq_lower, Nat.div_add_mod]

theorem frac_lt (w : Word) : frac w < 2 ^ 23 := by
  rw [frac_eq_lower]
  exact Nat.mod_lt _ (by decide)

/-! ### Values by the rows of R62 -/

theorem val_of_subnormal {w : Word} (hsign : sign w = false) (hexp : expf w = 0) :
    val w = frac w * (2 : ℚ) ^ (-149 : ℤ) := by
  simp [val, hsign, hexp]

theorem val_of_normal {w : Word} (hsign : sign w = false) (hexp : expf w ≠ 0) :
    val w = ((2 ^ 23 + frac w : ℕ) : ℚ) * (2 : ℚ) ^ ((expf w : ℤ) - 150) := by
  simp [val, hsign, hexp]

/-- A word of the other sign has the opposite value. -/
theorem val_eq_neg {u w : Word} (hu : sign u = true) (hw : sign w = false) (hexp : expf u = expf w)
    (hfrac : frac u = frac w) : val u = -val w := by
  simp only [val, hu, hw, hexp, hfrac, if_true, Bool.false_eq_true, if_false, neg_mul]

end Sys2Proof.Machine.Binary32

namespace Sys2Proof.Machine

open Binary32

/-! ### Adding a word without a fraction -/

theorem frac_add {ew : Word} (l : Word) (h : ew.toNat % 2 ^ 23 = 0) : frac (l + ew) = frac l := by
  rw [frac_eq_lower, frac_eq_lower, BitVec.toNat_add]
  omega

theorem upper_add {ew : Word} (l : Word) (h : ew.toNat % 2 ^ 23 = 0) :
    (l + ew).toNat / 2 ^ 23 = (l.toNat / 2 ^ 23 + ew.toNat / 2 ^ 23) % 512 := by
  rw [BitVec.toNat_add]
  omega

/-! ### Table words -/

theorem upper_tableWord (k : TableIndex) : (tableWord k).toNat / 2 ^ 23 = 0x7F := by
  have hbounds := tableWord_bounds k
  omega

theorem sign_tableWord (k : TableIndex) : sign (tableWord k) = false := by
  rw [sign_eq_upper, upper_tableWord]
  decide

theorem expf_tableWord (k : TableIndex) : expf (tableWord k) = 127 := by
  rw [expf_eq_upper, upper_tableWord]

/-- Only `TABLE[0] = 1` is a power of two. -/
theorem frac_tableWord_pos {k : TableIndex} (hk : k ≠ 0#11) : 0 < frac (tableWord k) := by
  have hpos : (0#11).toNat < k.toNat := Nat.pos_of_ne_zero fun h => hk (BitVec.eq_of_toNat_eq h)
  have hlt := tableWord_toNat_lt hpos
  have hupper := upper_tableWord k
  rw [tableWord_first, BitVec.toNat_ofNat] at hlt
  rw [frac_eq_lower]
  omega

theorem frac_tableWord_first : frac (tableWord 0#11) = 0 := by
  rw [tableWord_first]
  decide

theorem val_tableWord (k : TableIndex) :
    val (tableWord k) = ((2 ^ 23 + frac (tableWord k) : ℕ) : ℚ) * (2 : ℚ) ^ (-23 : ℤ) := by
  rw [val_of_normal (sign_tableWord k) (by rw [expf_tableWord]; decide), expf_tableWord]
  norm_num

/-! ### The patched word -/

/-- `ew` is the exponent word of `e`: `e` modulo 512 at bit 23 (R114). -/
def IsExponentWord (ew : Word) (e : ℤ) : Prop := (ew.toNat : ℤ) = e * 2 ^ 23 % 2 ^ 32

section
variable {k : TableIndex} {ew : Word} {e : ℤ}

theorem IsExponentWord.upper_eq (h : IsExponentWord ew e) : ((ew.toNat / 2 ^ 23 : ℕ) : ℤ) = e % 512 := by
  unfold IsExponentWord at h
  omega

theorem IsExponentWord.mod_eq_zero (h : IsExponentWord ew e) : ew.toNat % 2 ^ 23 = 0 := by
  unfold IsExponentWord at h
  omega

/-- An exponent word depends on `e` modulo 512 only. -/
theorem IsExponentWord.unique {ew' : Word} {e' : ℤ} (h : IsExponentWord ew e) (h' : IsExponentWord ew' e')
    (he : e' % 512 = e % 512) : ew' = ew := by
  apply BitVec.eq_of_toNat_eq
  unfold IsExponentWord at h h'
  omega

/-- The upper nine bits of the patched word: the exponent field is not saturated, it is added modulo 512. -/
theorem IsExponentWord.patch_upper (h : IsExponentWord ew e) (k : TableIndex) :
    (((tableWord k + ew).toNat / 2 ^ 23 : ℕ) : ℤ) = (127 + e) % 512 := by
  have hupper := h.upper_eq
  rw [upper_add _ h.mod_eq_zero, upper_tableWord]
  omega

theorem IsExponentWord.patch_sign (h : IsExponentWord ew e) (k : TableIndex) :
    sign (tableWord k + ew) = decide (256 ≤ (127 + e) % 512) := by
  rw [sign_eq_upper, decide_eq_decide, ← h.patch_upper k]
  omega

theorem IsExponentWord.patch_expf (h : IsExponentWord ew e) (k : TableIndex) :
    (expf (tableWord k + ew) : ℤ) = (127 + e) % 512 % 256 := by
  rw [expf_eq_upper, ← h.patch_upper k]
  omega

theorem IsExponentWord.patch_frac (h : IsExponentWord ew e) (k : TableIndex) :
    frac (tableWord k + ew) = frac (tableWord k) := frac_add _ h.mod_eq_zero

/-- Patching `TABLE[0] = 1` gives a word of fraction 0. -/
theorem IsExponentWord.patch_first (h : IsExponentWord ew e) :
    ((tableWord 0#11 + ew).toNat : ℤ) = (127 + e) % 512 * 2 ^ 23 := by
  rw [toNat_eq_upper_frac, h.patch_frac, frac_tableWord_first, ← h.patch_upper 0#11]
  omega

/-- Where the sum of the exponents is a normal exponent, the value is scaled by `2^e`. -/
theorem IsExponentWord.val_patch (h : IsExponentWord ew e) (k : TableIndex) (hlow : -126 ≤ e) (hhigh : e ≤ 127) :
    val (tableWord k + ew) = 2 ^ e * val (tableWord k) := by
  have hsign : sign (tableWord k + ew) = false := by
    rw [h.patch_sign, decide_eq_false_iff_not]
    omega
  have hexpf : (expf (tableWord k + ew) : ℤ) = 127 + e := by
    rw [h.patch_expf]
    omega
  have hexp : 127 + e - 150 = e + -23 := by ring
  rw [val_of_normal hsign (by omega), hexpf, h.patch_frac, val_tableWord, hexp, zpow_add₀ two_ne_zero]
  ring

/-- From 129 on and below -127 the sum of the exponents carries into the sign. -/
theorem IsExponentWord.patch_negative (h : IsExponentWord ew e) (k : TableIndex) (he : 256 ≤ (127 + e) % 512) :
    sign (tableWord k + ew) = true ∧ (expf (tableWord k + ew) : ℤ) = (127 + e) % 512 - 256 := by
  rw [h.patch_sign, h.patch_expf, decide_eq_true_iff]
  omega

/-- At `e = 256` the carry is all there is to the patch: it changes the sign alone. -/
theorem IsExponentWord.val_patch_opposite (h : IsExponentWord ew 256) (k : TableIndex) :
    val (tableWord k + ew) = -val (tableWord k) := by
  obtain ⟨hsign, hexpf⟩ := h.patch_negative k (by decide)
  refine val_eq_neg hsign (sign_tableWord k) ?_ (h.patch_frac k)
  rw [expf_tableWord]
  omega

/-- At `e = 128` the exponent field is that of infinity and the NaNs. -/
theorem IsExponentWord.patch_overflow (h : IsExponentWord ew 128) :
    (k = 0#11 → tableWord k + ew = 0x7F800000#32) ∧
      (k ≠ 0#11 → isNaN (tableWord k + ew) = true ∧ sign (tableWord k + ew) = false) := by
  have hexpf := h.patch_expf k
  refine ⟨?_, fun hk => ⟨?_, h.patch_sign k⟩⟩
  · rintro rfl
    have hword := h.patch_first
    apply BitVec.eq_of_toNat_eq
    rw [BitVec.toNat_ofNat]
    omega
  · have hfrac := frac_tableWord_pos hk
    rw [isNaN, h.patch_frac, Bool.and_eq_true, beq_iff_eq, bne_iff_ne]
    omega

/-- At `e = -127` the exponent field is 0: the fraction's leading 1 is lost, not shifted into the fraction. -/
theorem IsExponentWord.patch_underflow (h : IsExponentWord ew (-127)) :
    (k = 0#11 → tableWord k + ew = 0x00000000#32) ∧
      sign (tableWord k + ew) = false ∧ expf (tableWord k + ew) = 0 ∧
        val (tableWord k + ew) = frac (tableWord k) * (2 : ℚ) ^ (-149 : ℤ) := by
  have hsign : sign (tableWord k + ew) = false := h.patch_sign k
  have hexpf : expf (tableWord k + ew) = 0 := by
    have hfield := h.patch_expf k
    omega
  refine ⟨?_, hsign, hexpf, ?_⟩
  · rintro rfl
    have hword := h.patch_first
    apply BitVec.eq_of_toNat_eq
    rw [BitVec.toNat_ofNat]
    omega
  · rw [val_of_subnormal hsign hexpf, h.patch_frac]

/-- The fraction as a subnormal is not half the significand, as `f < 2^23 < 2^23 + f` would need `2*f = 2^23 + f`. -/
theorem frac_subnormal_ne_scaled (k : TableIndex) :
    (frac (tableWord k) : ℚ) * 2 ^ (-149 : ℤ) ≠ 2 ^ (-127 : ℤ) * val (tableWord k) := by
  have hlt : (frac (tableWord k) : ℚ) < 2 ^ 23 := by exact_mod_cast frac_lt (tableWord k)
  have hunit : (2 : ℚ) ^ (-149 : ℤ) = 2 * 2 ^ (-150 : ℤ) := by norm_num
  have hscaled : (2 : ℚ) ^ (-127 : ℤ) * val (tableWord k) = (2 ^ 23 + frac (tableWord k)) * 2 ^ (-150 : ℤ) := by
    rw [val_tableWord]
    push_cast
    ring
  have hpos : (0 : ℚ) < 2 ^ (-150 : ℤ) := by positivity
  rw [hscaled, hunit, ← mul_assoc]
  intro h
  have hcancel := mul_right_cancel₀ hpos.ne' h
  linarith

end

/-! ### The rules -/

/-- Settles O53: an exponent word is a multiple of `2^23`, and a table word has `0x7F` above bit 22. -/
theorem patchKeepsTheFraction : Obligations.PatchKeepsTheFraction := by
  refine ⟨fun w => ?_, fun l ew hew => ⟨?_, upper_add l hew⟩, upper_tableWord, fun k ew e hew =>
    IsExponentWord.patch_upper hew k⟩
  · rw [toNat_exponentWord, Nat.mul_mod_left]
  · rw [← frac_eq_lower, ← frac_eq_lower, frac_add l hew]

/-- Settles O54: `127 + e` is a normal exponent, so the sum modulo 512 is the sum. -/
theorem patchScalesExactly : Obligations.PatchScalesExactly := by
  intro k ew e hlow hhigh hew
  have hword : IsExponentWord ew e := hew
  have hexpf := hword.patch_expf k
  refine ⟨?_, by omega, by omega, by omega, hword.patch_frac k, hword.val_patch k hlow hhigh⟩
  rw [hword.patch_sign, decide_eq_false_iff_not]
  omega

/-- Settles O55: each range of `e` by what `(127 + e) mod 512` is there. -/
theorem patchOutOfRange : Obligations.PatchOutOfRange := by
  intro k ew e hew
  have hword : IsExponentWord ew e := hew
  refine ⟨?infinity, fun _ _ => hword.patch_negative k (by omega), ?opposite, ?zero,
    fun _ _ => hword.patch_negative k (by omega),
    fun ew' e' hew' he => congrArg (tableWord k + ·) (hword.unique hew' he)⟩
  case infinity =>
    rintro rfl
    exact hword.patch_overflow
  case opposite =>
    rintro rfl
    exact hword.val_patch_opposite k
  case zero =>
    rintro rfl
    obtain ⟨hfirst, hsign, hexpf, hval⟩ := hword.patch_underflow (k := k)
    exact ⟨hfirst, fun _ => ⟨hsign, hexpf, hval, hval ▸ frac_subnormal_ne_scaled k⟩⟩

end Sys2Proof.Machine
end

section
/-! SUPPORT and PROOFS. The Polynomial Evaluator (44_minimax_polynomial_evaluator.md).  The multiplication's coefficient is
the block's, so its product is that with one of the three admitted words; the combine has no constant. -/

namespace Sys2Proof.Machine

open Binary32

/-- A product with the block's coefficient is the product with the word of R139 that the block has. -/
theorem Computes.fmul_coefficient {c1 : Config.Coefficient} {t p : Word} (h : Computes (fmul t (K_C1 c1)) p) :
    (c1 = .below ∧ Computes (fmul t 0x3F7FFFFF#32) p) ∨
      (c1 = .one ∧ Computes (fmul t 0x3F800000#32) p) ∨
      (c1 = .above ∧ Computes (fmul t 0x3F800001#32) p) := by
  cases c1 with
  | below => exact .inl ⟨rfl, h⟩
  | one => exact .inr (.inl ⟨rfl, h⟩)
  | above => exact .inr (.inr ⟨rfl, h⟩)

/-- Settles O35: each operation updates one register of each lane by its result or a drawn NaN, `PE.MUL` with the word
of the block's coefficient. -/
theorem polynomialOperations : Obligations.PolynomialOperations := fun s =>
  ⟨⟨s.mul, rfl, laneStep_drawLanes_of_isNaN (fun _ _ hnan => ⟨rfl, (computes_getD hnan).fmul_coefficient⟩) s _⟩,
    ⟨s.comb, rfl, laneStep_drawLanes_of_isNaN (fun _ _ hnan => ⟨rfl, computes_getD hnan⟩) s _⟩⟩

end Sys2Proof.Machine
end

section
/-! SUPPORT and PROOFS. The Domain Clamp (45_domain_clamp.md).  The comparison with the cutoff is that of R12, and the clamp
is the last thing a lane does: its output is zero below the cutoff and `F` everywhere else.  The cutoff and the next word
down lie on either side of `-126 ln 2`, with no value between them. -/

namespace Sys2Proof.Machine.Binary32

/-! ### The words of sign 1, by their numbers -/

/-- The word with the other sign. -/
def opposite (w : Word) : Word := withSign (!sign w) (pattern w)

theorem val_opposite (w : Word) : val (opposite w) = -val w := by
  have hunits : units (opposite w) = -units w := by
    rw [units, units, magnitude_eq, magnitude_eq, opposite, sign_withSign (pattern_lt w), pattern_withSign (pattern_lt w)]
    cases sign w <;> simp
  rw [val_eq_units, val_eq_units, hunits, Int.cast_neg, neg_div]

theorem toNat_opposite_of_negative {w : Word} (h : 2 ^ 31 ≤ w.toNat) : (opposite w).toNat = w.toNat - 2 ^ 31 := by
  rw [opposite, sign_eq, decide_eq_true h, toNat_withSign (pattern_lt w), pattern]
  simp only [Bool.not_true, Bool.false_eq_true, if_false]
  omega

/-- No value lies strictly between those of two words of sign 1 with consecutive numbers. -/
theorem val_le_or_val_ge_of_negative {v w : Word} (hv : 2 ^ 31 ≤ v.toNat) (hvw : v.toNat + 1 = w.toNat) (u : Word) :
    val u ≤ val w ∨ val v ≤ val u := by
  have hv' := toNat_opposite_of_negative hv
  have hw' := toNat_opposite_of_negative (w := w) (by omega)
  have hside := val_le_or_val_ge (v := opposite v) (w := opposite w) (by omega) (by omega) (opposite u)
  simp only [val_opposite, neg_le_neg_iff] at hside
  exact hside.symm

end Sys2Proof.Machine.Binary32

namespace Sys2Proof.Machine

open Binary32

/-! ### The comparison and the mask -/

theorem flt_cutoff_iff (x : Word) : flt x K_CUT = true ↔ isNaN x = false ∧ Below x K_CUT := by
  rw [comparisonIsByValue]
  exact and_congr_right fun _ => and_iff_right (by decide)

theorem flt_cutoff_eq_false {x : Word} (h : isNaN x = true ∨ ¬ Below x K_CUT) : flt x K_CUT = false := by
  rw [← Bool.not_eq_true, flt_cutoff_iff, not_and_or, Bool.not_eq_false]
  exact h

/-- Comparing commutes with an operation on a lane that keeps the input and passes the mask through unread (R156). -/
theorem Lane.cmp_comm {f : Lane → Lane} {l : Lane} (hx : (f l).x = l.x)
    (hm : ∀ w, f { l with m := w } = { f l with m := w }) : (f l).cmp = f l.cmp :=
  calc (f l).cmp = { f l with m := maskOf (flt l.x K_CUT) } :=
        congrArg (fun x => { f l with m := maskOf (flt x K_CUT) }) hx
    _ = f l.cmp := (hm _).symm

/-- Settles O40: every lane operation keeps `X`, and all but `DC.CMP` and `DC.MASK` neither read nor write `M`. -/
theorem comparisonMayGoAnywhere : Obligations.ComparisonMayGoAnywhere := fun c1 nan l =>
  ⟨⟨l.bias_x nan, l.unbias_x nan, l.resHi_x nan, l.resLo_x nan, l.index_x, l.expWord_x, l.fetch_x, l.patch_x,
      l.mul_x c1 nan, l.comb_x nan, l.cmp_x, l.mask_x⟩,
    Lane.cmp_comm (f := .bias nan) rfl fun _ => rfl, Lane.cmp_comm (f := .unbias nan) rfl fun _ => rfl,
    Lane.cmp_comm (f := .resHi nan) rfl fun _ => rfl, Lane.cmp_comm (f := .resLo nan) rfl fun _ => rfl,
    Lane.cmp_comm (f := .index) rfl fun _ => rfl, Lane.cmp_comm (f := .expWord) rfl fun _ => rfl,
    Lane.cmp_comm (f := .fetch) rfl fun _ => rfl, Lane.cmp_comm (f := .patch) rfl fun _ => rfl,
    Lane.cmp_comm (f := .mul c1 nan) rfl fun _ => rfl, Lane.cmp_comm (f := .comb nan) rfl fun _ => rfl⟩

theorem getLsbD_clear (f m : Word) (i : Nat) : (clear f m).getLsbD i = (f.getLsbD i && !m.getLsbD i) := by
  rw [clear, BitVec.getLsbD_and, BitVec.getLsbD_not]
  by_cases hi : i < 32
  · rw [decide_eq_true hi, Bool.true_and]
  · rw [BitVec.getLsbD_of_ge f i (by omega), Bool.false_and, Bool.false_and]

/-- Settles O36: the mask is that of the comparison, and clearing its bits is bit by bit. -/
theorem domainClampOperations : Obligations.DomainClampOperations := fun s =>
  ⟨⟨s.cmp, rfl, laneStep_eachLane (fun a =>
      ⟨rfl, fun hnan hbelow => congrArg maskOf ((flt_cutoff_iff a.x).mpr ⟨hnan, hbelow⟩),
        fun h => congrArg maskOf (flt_cutoff_eq_false h)⟩) s _⟩,
    ⟨s.mask, rfl, laneStep_eachLane (fun a => ⟨rfl, getLsbD_clear a.f a.m⟩) s _⟩⟩

/-! ### The clamp on one lane -/

theorem Lane.clamp_of_below {l : Lane} (hnan : isNaN l.x = false) (hbelow : Below l.x K_CUT) :
    l.cmp.mask.y = 0x00000000#32 :=
  (clear_maskOf l.f _).trans (if_pos ((flt_cutoff_iff l.x).mpr ⟨hnan, hbelow⟩))

theorem Lane.clamp_of_not_below {l : Lane} (h : isNaN l.x = true ∨ ¬ Below l.x K_CUT) : l.cmp.mask.y = l.f :=
  (clear_maskOf l.f _).trans (if_neg (Bool.not_eq_true _ ▸ flt_cutoff_eq_false h))

/-- The lane computation ends with the clamp, on the input it began with. -/
theorem Lane.expm_eq_clamp (c1 : Config.Coefficient) (nan : Nat → Word) (l : Lane) :
    ∃ u : Lane, l.expm c1 nan = u.cmp.mask ∧ u.x = l.x :=
  ⟨_, rfl, rfl⟩

/-- What `LANE.EXPM` makes of one lane. -/
theorem lane_of_exec_laneExpm {s t : State} {i : Nat} {a b : Lane} (h : exec .laneExpm s = .next t)
    (ha : s.lanes[i]? = some a) (hb : t.lanes[i]? = some b) :
    ∃ nan : Nat → Word, (∀ d, isNaN (nan d) = true) ∧ b = a.expm s.params.c1 nan := by
  obtain rfl : s.expm = t := Host.Outcome.next.inj h
  rw [State.expm_lanes, List.getElem?_mapIdx, ha] at hb
  exact ⟨_, fun d => isNaN_drawnNaN (s.draws + d) i, (Option.some.inj hb).symm⟩

/-- Settles O56: the clamp comes last and looks at `X` alone. -/
theorem belowTheCutoffIsZero : Obligations.BelowTheCutoffIsZero := by
  refine ⟨fun l => Lane.clamp_of_below, .inl (by decide), fun s t i a b h ha hb hnan hbelow => ?_⟩
  obtain ⟨nan, -, rfl⟩ := lane_of_exec_laneExpm h ha hb
  obtain ⟨u, hclamp, hx⟩ := a.expm_eq_clamp s.params.c1 nan
  rw [← hx] at hnan hbelow
  rw [hclamp, Lane.clamp_of_below hnan hbelow]

theorem laneY_of_not_below {x : Word} (c1 : Config.Coefficient) (h : isNaN x = true ∨ ¬ Below x K_CUT) :
    laneY c1 x = laneF c1 x :=
  if_neg (Bool.not_eq_true _ ▸ flt_cutoff_eq_false h)

theorem laneY_of_isNaN {x : Word} (c1 : Config.Coefficient) (h : isNaN x = true) : laneY c1 x = none := by
  rw [laneY_of_not_below c1 (.inl h), laneF, fma_of_isNaN (.inl h), Option.bind_none]

/-- Settles O57: for a NaN input `Y` is a NaN (R160), and it is `F` since the comparison with a NaN is false. -/
theorem naNPassesThrough : Obligations.NaNPassesThrough := by
  refine ⟨fun s t i a b h ha hb hnan => ?_, fun l => Lane.clamp_of_not_below⟩
  obtain ⟨nan, hdrawn, rfl⟩ := lane_of_exec_laneExpm h ha hb
  have hy : isNaN (a.expm s.params.c1 nan).y = true :=
    (Lane.expm_computes s.params.c1 hdrawn a).isNaN (laneY_of_isNaN s.params.c1 hnan)
  obtain ⟨u, hclamp, hx⟩ := a.expm_eq_clamp s.params.c1 nan
  rw [← hx] at hnan
  have hyf : u.cmp.mask.y = u.f := Lane.clamp_of_not_below (.inl hnan)
  rw [hclamp] at hy ⊢
  exact ⟨congrArg maskOf (flt_cutoff_eq_false (.inl hnan)), hyf ▸ hy, hyf, hy⟩

/-! ### The cutoff -/

theorem val_below_K_CUT : val 0xC2AEAC50#32 = -0x15D58A0 / 2 ^ 18 := by decide +kernel

/-- `-126 ln 2` lies between the cutoff and the next word down. -/
theorem cutoff_bounds :
    (val 0xC2AEAC50#32 : ℝ) < -126 * Real.log 2 ∧ -126 * Real.log 2 < (val K_CUT : ℝ) := by
  have hlow := Real.log_two_gt_d9
  have hhigh := Real.log_two_lt_d9
  rw [val_below_K_CUT, val_K_CUT]
  push_cast
  constructor <;> linarith

theorem least_normal_le_exp_iff (r : ℝ) : (2 : ℝ) ^ (-126 : ℤ) ≤ Real.exp r ↔ -126 * Real.log 2 ≤ r := by
  rw [← Real.log_le_iff_le_exp (by positivity), Real.log_zpow, Int.cast_neg, Int.cast_ofNat]

/-- The cutoff is the least word whose exponential is a normal value (R155). -/
theorem least_normal_le_exp_val_iff (u : Word) : (2 : ℝ) ^ (-126 : ℤ) ≤ Real.exp (val u) ↔ val K_CUT ≤ val u := by
  obtain ⟨hlow, hhigh⟩ := cutoff_bounds
  rw [least_normal_le_exp_iff]
  constructor
  · intro h
    refine (val_le_or_val_ge_of_negative (w := 0xC2AEAC50#32) (by decide) rfl u).resolve_left fun hle => ?_
    have hreal : (val u : ℝ) ≤ val 0xC2AEAC50#32 := by exact_mod_cast hle
    linarith
  · intro h
    have hreal : (val K_CUT : ℝ) ≤ val u := by exact_mod_cast h
    linarith

theorem not_below_K_CUT : ¬ Below K_CUT K_CUT := fun h =>
  absurd ((flt_cutoff_iff K_CUT).mpr ⟨by decide, h⟩) (by decide)

theorem laneF_K_CUT (c1 : Config.Coefficient) : laneF c1 K_CUT = some 0x00800026#32 := by
  cases c1 <;> decide +kernel

/-- Settles O50: no value lies between the cutoff and the next word down, but `-126 ln 2` does. -/
theorem cutoffIsTheLeastNormalInput : Obligations.CutoffIsTheLeastNormalInput :=
  ⟨rfl, val_K_CUT, fun u _ => least_normal_le_exp_val_iff u, cutoff_bounds.1, by decide +kernel, by norm_num,
    by norm_num, by decide, by rw [tableWord_first]; decide, fun c1 =>
      ⟨laneF_K_CUT c1, (laneY_of_not_below c1 (.inr not_below_K_CUT)).trans (laneF_K_CUT c1)⟩⟩

end Sys2Proof.Machine
end

section
/-! SUPPORT and PROOFS. The step and the sequencer's operations: what is presented is what runs (R162, R166); `VX.START`
admits a tuple or names every precondition that is violated (R162, R194), `VX.NEXT` moves the cursor, and `VX.DONE` alone
ends a run (R167). -/

namespace Sys2Proof.Machine

/-! ### What is presented runs -/

/-- Settles O5, by the branches of the step. -/
theorem stepRunsTheDecodedOperation : Obligations.StepRunsTheDecodedOperation := by
  intro s bytes i rest hreset hfetch hdecode
  simp only [step, hreset, hfetch, hdecode, Bool.false_eq_true, if_false]

/-- A busy block performs the operation whose stage code stands at its place. -/
theorem step_of_stageCode {s : State} {i : Instr} (hreset : s.resetLine = false) (hstart : s.start = none)
    (hbusy : s.busy = true) (hstage : s.stage = i.stageCode) (hcode : i.stageCode ≠ 0x00#5) : step s = exec i s := by
  obtain ⟨-, ⟨hzero, -⟩ | ⟨-, hof, -⟩⟩ := i.codeByte
  · exact absurd (BitVec.eq_of_toNat_eq hzero) hcode
  · rw [← hstage] at hcode hof
    exact step_of_stage hreset hstart hbusy hcode hof

/-- Settles O6: a tuple that fits is read back from its bytes, and so is the code at the place. -/
theorem presentedOperationRuns : Obligations.PresentedOperationRuns := by
  refine ⟨fun s l hreset hstart hfits => ?_, fun s i hreset hstart hbusy hstage hcode => ?_⟩
  · exact step_of_start hreset hstart hfits
  · exact step_of_stageCode hreset hstart hbusy hstage hcode

/-- Only `VX.DONE` ends a run. -/
theorem Effect.done_of_busy_falls {s t : State} {i : Instr} (h : Effect s i t) (hs : s.busy = true)
    (ht : t.busy = false) : i = .vxDone ∧ s.cur = s.len ∧ t = s.finished := by
  cases h with
  | done _ atEnd => exact ⟨rfl, atEnd, rfl⟩
  | start => cases ht
  | load | store | next => exact absurd (hs.symm.trans ht) nofun
  | chunk =>
    rw [State.advance_busy, State.stored_busy, State.expm_busy, State.loaded_busy, hs] at ht
    cases ht
  | lane _ laneStep place => exact absurd (hs.symm.trans ((laneStep.staysInChunk place).busy.symm.trans ht)) nofun

/-- `VX.DONE` is presented by its code alone, and by the place: the first byte that the host presents is 0. -/
theorem stage_of_decode_vxDone {s : State} {bytes rest : List Byte} (hfetch : s.fetch = some bytes)
    (hdecode : decode s.params.xlen bytes = .ok (.vxDone, rest)) : s.stage = 0x10#5 := by
  obtain ⟨-, hbytes⟩ := decodedBytesAreTheEncoding _ _ _ _ hdecode
  have hfirst : bytes.head? = some 0x10#8 := by rw [hbytes]; rfl
  cases hstart : s.start with
  | some l =>
    obtain rfl : encode s.params.xlen (.vxStart l.len l.inBase l.outBase) = bytes := by
      simpa [State.fetch, hstart] using hfetch
    have hcode : 0x00#8 = 0x10#8 := Option.some.inj hfirst
    exact absurd hcode (by decide)
  | none =>
    obtain ⟨-, rfl⟩ : s.busy = true ∧ [s.stage.setWidth 8] = bytes := by
      simpa [State.fetch_of_no_start hstart] using hfetch
    have hcode : s.stage.setWidth 8 = 0x10#8 := Option.some.inj hfirst
    bv_omega

/-- Settles O17, by the kinds of step. -/
theorem busyFallsOnlyWithDone : Obligations.BusyFallsOnlyWithDone := by
  intro s t h hs ht hreset
  obtain ⟨hreset', -⟩ | ⟨-, -, rfl⟩ | ⟨-, bytes, i, rest, hfetch, hdecode, hexec⟩ := step_cases h
  · exact absurd (hreset.symm.trans hreset') nofun
  · exact absurd (hs.symm.trans ht) nofun
  · obtain ⟨rfl, hend, rfl⟩ := (exec_effect hexec).done_of_busy_falls hs ht
    exact ⟨stage_of_decode_vxDone hfetch hdecode, hend, rfl⟩

/-! ### `VX.NEXT`, `VX.DONE` and `VX.CHUNK` -/

/-- Where the sum needs no more than `XLEN` bits, `VX.NEXT` does not reduce it (R174). -/
theorem State.advance_of_lt {s : State} (hsum : s.cur + s.W < 2 ^ s.params.xlen) :
    s.advance = { s with cur := s.cur + s.W, stage := loopTest (s.cur + s.W) s.len } := by
  rw [State.advance, xlenBits, Nat.mod_eq_of_lt hsum]

/-- Settles O30: the sum is reduced in either case, and a sum that fits is its own remainder. -/
theorem nextAdvancesTheCursor : Obligations.NextAdvancesTheCursor := fun _ =>
  ⟨fun hsum => congrArg Host.Outcome.next (State.advance_of_lt hsum), fun _ => rfl⟩

/-- Settles O31, by the guards of the two operations. -/
theorem doneEndsTheRun : Obligations.DoneEndsTheRun := fun _ =>
  ⟨fun hbusy hend => execVxDone_eq_next.2 ⟨hbusy, hend, rfl⟩, fun h => if_neg h, fun h => if_neg h⟩

/-! ### `VX.START` -/

/-- Settles O23: the loop test with `CUR = 0` asks whether there are elements. -/
theorem startAdmitsTheInvocation : Obligations.StartAdmitsTheInvocation := by
  intro s l hidle hfits hadmissible
  have hplace : loopTest 0 l.len = if l.len = 0 then 0x10#5 else 0x01#5 := by
    simp only [loopTest, Nat.pos_iff_ne_zero, ne_eq, ite_not]
  rw [← hplace]
  exact exec_vxStart_eq_next.2 ⟨hfits, hidle, hadmissible, rfl⟩

theorem wellFormed_vxStart_iff {s : State} {l : Launch} :
    Instr.wellFormed s.params.xlen (.vxStart l.len l.inBase l.outBase) = true ↔ s.Fits l := by
  simp [Instr.wellFormed, State.Fits, and_assoc]

/-- `VX.START` of a tuple with a value of more than `XLEN` bits. -/
theorem exec_vxStart_of_not_fits {s : State} {l : Launch} (h : ¬ s.Fits l) :
    exec (.vxStart l.len l.inBase l.outBase) s = .refused .operandTooWide :=
  if_neg (wellFormed_vxStart_iff.not.2 h)

/-- `VX.START` of a tuple that fits and violates a precondition. -/
theorem exec_vxStart_of_violations {s : State} {l : Launch} (hfits : s.Fits l) (h : s.violations l ≠ []) :
    exec (.vxStart l.len l.inBase l.outBase) s = .refused (.launch (s.violations l)) :=
  (if_pos (wellFormed_vxStart_iff.2 hfits)).trans (if_neg h)

/-- The refusal lists a precondition exactly when it is broken. -/
theorem State.mem_violations {s : State} {l : Launch} {p : Precondition} :
    p ∈ s.violations l ↔ s.breaks l p = true := by
  rw [State.violations, List.mem_filter]
  exact and_iff_right (by cases p <;> simp)

section

variable {s : State} {l : Launch}

theorem State.breaks_lengthMultipleOfW_iff : s.breaks l .lengthMultipleOfW = true ↔ ¬ s.W ∣ l.len := by
  rw [State.breaks, decide_eq_true_eq, Nat.dvd_iff_mod_eq_zero]

theorem State.breaks_basesAligned_iff :
    s.breaks l .basesAligned = true ↔ ¬ (l.inBase % 4 = 0 ∧ l.outBase % 4 = 0) := by
  rw [State.breaks, Bool.or_eq_true, decide_eq_true_eq, decide_eq_true_eq, not_and_or]

theorem State.breaks_withinSpace_iff : s.breaks l .withinSpace = true ↔
    ¬ (l.inBase + 4 * l.len ≤ 2 ^ s.params.xlen ∧ l.outBase + 4 * l.len ≤ 2 ^ s.params.xlen) := by
  rw [State.breaks, Bool.or_eq_true, decide_eq_true_eq, decide_eq_true_eq, not_and_or, not_le, not_le]

theorem State.breaks_accessible_iff : s.breaks l .accessible = true ↔
    ¬ ((∀ i, i < l.len → ∀ r ∈ s.unreadable, OutsideRegion l.inBase i r) ∧
      ∀ i, i < l.len → ∀ r ∈ s.unwritable, OutsideRegion l.outBase i r) := by
  rw [← Bool.not_eq_false, State.breaks_accessible_eq_false]

theorem State.breaks_buffersDisjoint_iff :
    s.breaks l .buffersDisjoint = true ↔ ¬ BuffersDisjoint l.inBase l.len l.outBase l.len := by
  rw [← Bool.not_eq_false, State.breaks, rangesMeet_eq_false]

theorem State.breaks_noOtherInvocation_iff :
    s.breaks l .noOtherInvocation = true ↔ ¬ ∀ o ∈ s.others, Apart l o := by
  rw [← Bool.not_eq_false, State.breaks, List.any_eq_false]
  simp only [Bool.not_eq_true, Launch.conflicts_eq_false]

end

/-- Settles O24: of a tuple that fits, the refusal carries the violations, and they are the preconditions broken. -/
theorem startRefusesExactlyTheViolations : Obligations.StartRefusesExactlyTheViolations := by
  intro s l
  refine ⟨exec_vxStart_of_not_fits, fun hfits hnot => ?_⟩
  have hviolated : s.violations l ≠ [] := State.violations_eq_nil_iff.not.2 hnot
  refine ⟨s.violations l, exec_vxStart_of_violations hfits hviolated, hviolated, ?_⟩
  simp only [State.mem_violations]
  exact ⟨Iff.rfl, State.breaks_lengthMultipleOfW_iff, State.breaks_basesAligned_iff, State.breaks_withinSpace_iff,
    State.breaks_accessible_iff, State.breaks_buffersDisjoint_iff, State.breaks_noOtherInvocation_iff⟩

/-! ### The empty invocation -/

theorem BuffersDisjoint.of_empty_left {a b m : Nat} : BuffersDisjoint a 0 b m := fun _ _ hi => by omega

/-- An empty tuple that fits breaks no precondition of an idle block but that of the alignment (R169): its buffers have no
byte to deny, to share or to put past the top of the space. -/
theorem State.breaks_of_empty {s : State} {l : Launch} (hidle : s.busy = false) (hfits : s.Fits l) (hlen : l.len = 0)
    {p : Precondition} (hp : p ≠ .basesAligned) : s.breaks l p = false := by
  obtain ⟨-, hin, hout⟩ := hfits
  rw [← Bool.not_eq_true]
  cases p with
  | idle => exact Bool.not_eq_true _ ▸ hidle
  | lengthMultipleOfW => rw [State.breaks_lengthMultipleOfW_iff, hlen, not_not]; exact Nat.dvd_zero _
  | basesAligned => exact absurd rfl hp
  | withinSpace => rw [State.breaks_withinSpace_iff, hlen]; omega
  | accessible => rw [State.breaks_accessible_iff, hlen]; simp
  | buffersDisjoint => rw [State.breaks_buffersDisjoint_iff, hlen, not_not]; exact .of_empty_left
  | noOtherInvocation =>
    rw [State.breaks_noOtherInvocation_iff, not_not]
    intro o _
    rw [Apart, hlen]
    exact ⟨.of_empty_left, .of_empty_left, .of_empty_left⟩

theorem State.violations_of_empty_aligned {s : State} {l : Launch} (hidle : s.busy = false) (hfits : s.Fits l)
    (hlen : l.len = 0) (haligned : l.inBase % 4 = 0 ∧ l.outBase % 4 = 0) : s.violations l = [] := by
  refine State.violations_eq_nil.2 fun p => ?_
  by_cases hp : p = .basesAligned
  · rw [hp, ← Bool.not_eq_true, State.breaks_basesAligned_iff, not_not]
    exact haligned
  · exact State.breaks_of_empty hidle hfits hlen hp

theorem State.violations_of_empty_misaligned {s : State} {l : Launch} (hidle : s.busy = false) (hfits : s.Fits l)
    (hlen : l.len = 0) (hmisaligned : ¬ (l.inBase % 4 = 0 ∧ l.outBase % 4 = 0)) :
    s.violations l = [.basesAligned] := by
  have hbreaks := State.breaks_basesAligned_iff (s := s).2 hmisaligned
  simp [State.violations, hbreaks, State.breaks_of_empty hidle hfits hlen]

/-- Settles O22: with no element the loop test of `VX.START` leads to `VX.DONE` (R169). -/
theorem emptyInvocation : Obligations.EmptyInvocation := by
  intro s l hreset hidle hstart hfits hlen
  have hstep := step_of_start hreset hstart hfits
  refine ⟨fun hin hout => ?admitted, fun hmisaligned => ?refused⟩
  case admitted =>
    have hlaunch : step s = .next (s.launched l) := hstep.trans
      (execVxStart_eq_next.2 ⟨hfits, State.violations_of_empty_aligned hidle hfits hlen ⟨hin, hout⟩, rfl⟩)
    have hdone : (s.launched l).AtPlace 0x10#5 := ⟨hreset, rfl, rfl, by simp [hlen, loopTest]⟩
    have hfinish : exec .vxDone (s.launched l) = .next (s.launched l).finished :=
      execVxDone_eq_next.2 ⟨rfl, hlen.symm, rfl⟩
    rw [runSteps_succ, hlaunch, andThen_next, hdone.runSteps_next .vxDone 0 hfinish, runSteps_zero, State.finished,
      State.launched, hlen]
  case refused =>
    have hviolations := State.violations_of_empty_misaligned hidle hfits hlen (not_and_or.2 hmisaligned)
    rw [hstep, exec_vxStart_of_violations hfits (by simp [hviolations]), hviolations]

end Sys2Proof.Machine
end

section
/-! SUPPORT and PROOFS. A chunk of a run and the whole run: a load puts the input words into the lanes, the lane computation
acts on each lane alone, a store puts `Y` of every lane into memory, and so a chunk computes its elements (R164).  By
induction on the chunks, an invocation computes all of them (R168): the output buffer shares no byte with the input, so a
later chunk reads what was there at the start. -/

namespace Sys2Proof.Machine

/-! ### Loads and stores of a chunk -/

theorem exec_vxLoad_of_mayRead {s : State} (h : ∀ i, i < s.W → s.MayRead s.inBase (s.cur + i)) :
    exec .vxLoad s = .next s.loaded :=
  State.loadChunk_eq_next.2 ⟨rfl, fun i hi => State.readStop_eq_none_iff.2 (h i hi)⟩

theorem exec_vxStore_of_mayWrite {s : State} (h : ∀ i, i < s.W → s.MayWrite s.outBase (s.cur + i)) :
    exec .vxStore s = .next s.stored :=
  State.storeChunk_eq_next.2 ⟨rfl, fun i hi => State.writeStop_eq_none_iff.2 (h i hi)⟩

/-- What a load leaves in a lane: the element's word in `X`, and the other registers as they were. -/
theorem State.loaded_getElem? {s : State} {i : Nat} {a : Lane} (ha : s.lanes[i]? = some a) :
    s.loaded.lanes[i]? = some { a with x := s.mem.readWord (s.inBase + 4 * (s.cur + i)) } := by
  simp [State.loaded_lanes, ha, elementAddr]

/-- The word of a lane after a store is the lane's `Y`. -/
theorem State.stored_readWord {s : State} (hw : s.mem.wf = true) {i : Nat} {l : Lane} (hl : s.lanes[i]? = some l) :
    s.stored.mem.readWord (s.outBase + 4 * (s.cur + i)) = l.y :=
  Memory.readWord_writeWords hw s.chunkWords_apart (State.mem_chunkWords.2 ⟨i, l, hl, rfl⟩)

/-- Settles O26: where no element stops the load it answers `s.loaded`, which is read lane by lane. -/
theorem loadFillsEveryLane : Obligations.LoadFillsEveryLane := by
  intro s hread
  refine ⟨s.loaded, exec_vxLoad_of_mayRead hread, rfl, s.loaded_W, fun i a b ha hb => ?_⟩
  exact Option.some.inj (hb.symm.trans (State.loaded_getElem? ha))

/-- Settles O27: where no element stops the store it answers `s.stored`, and the words of a chunk are apart. -/
theorem storeWritesEveryLane : Obligations.StoreWritesEveryLane := by
  intro s hw hwrite
  exact ⟨s.stored, exec_vxStore_of_mayWrite hwrite, rfl, Memory.writeWords_wf _ hw,
    fun _ _ hl => State.stored_readWord hw hl, fun _ ha => State.stored_readByte_outside hw ha⟩

/-! ### The lane computation -/

/-- `LANE.EXPM` puts the lane function of `X` into `Y` of every lane. -/
theorem State.expm_computes (s : State) :
    LaneStep s s.expm 6 0x0E#5 fun a b => b.x = a.x ∧ Computes (laneY s.params.c1 a.x) b.y :=
  laneStep_of_mapIdx (fun i l => l.expm s.params.c1 fun d => drawnNaN (s.draws + d) i) s.expm_frame s.expm_lanes
    fun _ l => ⟨(Lane.kept_expm _ _ l).input, Lane.expm_computes s.params.c1 (fun _ => isNaN_drawnNaN _ _) l⟩

/-- Settles O37: the lane function of R160 in every lane. -/
theorem laneExpmComputesTheLane : Obligations.LaneExpmComputesTheLane := fun s => ⟨s.expm, rfl, s.expm_computes⟩

/-- One lane after `LANE.EXPM`, from that lane, the coefficient, the draws and its number alone. -/
theorem State.expm_getElem? (s : State) (i : Nat) :
    s.expm.lanes[i]? = s.lanes[i]?.map fun l => l.expm s.params.c1 fun d => drawnNaN (s.draws + d) i := by
  rw [State.expm_lanes, List.getElem?_mapIdx]

/-- Settles O38: all that a lane's result is made of agrees in the two states. -/
theorem lanesAreIndependent : Obligations.LanesAreIndependent := by
  intro s u t v i hc1 hdraws hlane ht hv
  obtain rfl : s.expm = t := Host.Outcome.next.inj ht
  obtain rfl : u.expm = v := Host.Outcome.next.inj hv
  rw [State.expm_getElem?, State.expm_getElem?, hc1, hdraws, hlane]

/-! ### One chunk -/

/-- Each output word of a chunk is computed from its input word. -/
theorem State.chunk_computes {s : State} (hw : s.mem.wf = true) {i : Nat} (hi : i < s.W) :
    Computes (laneY s.params.c1 (s.mem.readWord (s.inBase + 4 * (s.cur + i))))
      (s.loaded.expm.stored.advance.mem.readWord (s.outBase + 4 * (s.cur + i))) := by
  obtain ⟨-, hlength, hlanes⟩ := s.loaded.expm_computes
  have hloaded := State.loaded_getElem? (List.getElem?_eq_getElem (l := s.lanes) hi)
  obtain ⟨b, hb⟩ : ∃ b, s.loaded.expm.lanes[i]? = some b := by
    rw [State.expm_getElem?, hloaded]
    exact ⟨_, rfl⟩
  obtain ⟨-, hy⟩ := hlanes i _ b hloaded hb
  have hstored : s.loaded.expm.stored.mem.readWord (s.outBase + 4 * (s.cur + i)) = b.y := by
    simpa using State.stored_readWord (s := s.loaded.expm) (by simpa using hw) hb
  rw [State.advance_mem, hstored]
  exact hy

/-- A chunk changes no byte outside its output words. -/
theorem State.chunk_readByte_outside {s : State} (hw : s.mem.wf = true) {a : Nat}
    (hout : ¬ (s.outBase + 4 * s.cur ≤ a ∧ a < s.outBase + 4 * (s.cur + s.W))) :
    s.loaded.expm.stored.advance.mem.readByte a = s.mem.readByte a := by
  have hstored : s.loaded.expm.stored.mem.readByte a = s.loaded.expm.mem.readByte a :=
    State.stored_readByte_outside (by simpa using hw) (by simpa using hout)
  rw [State.advance_mem, hstored, State.expm_mem, State.loaded_mem]

/-- The frame of a chunk: what its four parts change outside the lanes and memory. -/
theorem State.chunk_frame {s : State} (hsum : s.cur + s.W < 2 ^ s.params.xlen) :
    s.loaded.expm.stored.advance =
      { s with
        lanes := s.loaded.expm.stored.advance.lanes
        mem := s.loaded.expm.stored.advance.mem
        cur := s.cur + s.W
        draws := s.draws + 6
        events := .stored (s.chunkAddrs s.outBase) :: .loaded (s.chunkAddrs s.inBase) :: s.events
        stage := loopTest (s.cur + s.W) s.len } := by
  rw [State.advance_of_lt (by simpa using hsum)]
  simp [State.chunkAddrs]

/-- Settles O32: the chunk is its four parts, and a chunk that is left and may be accessed goes through all of them. -/
theorem chunkComputesEveryLane : Obligations.ChunkComputesEveryLane := by
  intro s hw hbusy hleft hsum hread hwrite
  refine ⟨s.loaded.expm.stored.advance, ?_, State.chunk_frame hsum, fun i => State.chunk_computes hw,
    fun a => State.chunk_readByte_outside hw⟩
  exact execVxChunk_eq_next.2 ⟨hbusy, hleft, fun i hi => State.readStop_eq_none_iff.2 (hread i hi),
    fun i hi => State.writeStop_eq_none_iff.2 (hwrite i hi), rfl⟩

/-! ### The whole run -/

theorem State.chunk_sameConfiguration (s : State) : SameConfiguration s s.loaded.expm.stored.advance :=
  (s.loaded_sameConfiguration.trans s.loaded.expm_sameConfiguration).trans
    (s.loaded.expm.stored_sameConfiguration.trans s.loaded.expm.stored.advance_sameConfiguration)

/-- The memory of `u` holds the first `n` elements of the output of the run that began in `s`, and is that of `s`
elsewhere. -/
structure ComputedUpTo (s u : State) (n : Nat) : Prop where
  params : u.params = s.params
  words : ∀ i, i < n →
    Computes (laneY s.params.c1 (s.mem.readWord (s.inBase + 4 * i))) (u.mem.readWord (s.outBase + 4 * i))
  outside : ∀ a, ¬ (s.outBase ≤ a ∧ a < s.outBase + 4 * n) → u.mem.readByte a = s.mem.readByte a

/-- The input is still what it was at the start: no byte of it lies in the output buffer (P6 of R162). -/
theorem ComputedUpTo.input_kept {s u : State} {n i : Nat} (h : ComputedUpTo s u n) (hn : n ≤ s.len)
    (hdisjoint : BuffersDisjoint s.inBase s.len s.outBase s.len) (hi : i < s.len) :
    u.mem.readWord (s.inBase + 4 * i) = s.mem.readWord (s.inBase + 4 * i) :=
  Memory.readWord_congr fun y hlow hhigh => h.outside y fun hy =>
    hdisjoint (y - s.inBase) (y - s.outBase) (by omega) (by omega) (by omega)

/-- One chunk more: its words are new, and the words before it and every other byte are as before. -/
theorem ComputedUpTo.succ {s u : State} {c : Nat} (h : ComputedUpTo s u (c * s.W)) (hloop : ChunkLoop s c u)
    (hdisjoint : BuffersDisjoint s.inBase s.len s.outBase s.len) (hc : (c + 1) * s.W ≤ s.len) :
    ComputedUpTo s u.loaded.expm.stored.advance ((c + 1) * s.W) := by
  have hin : u.inBase = s.inBase := congrArg Launch.inBase hloop.invocation
  have hout : u.outBase = s.outBase := congrArg Launch.outBase hloop.invocation
  have hkept {a : Nat} (ha : ¬ (s.outBase + 4 * (c * s.W) ≤ a ∧ a < s.outBase + 4 * (c * s.W + s.W))) :
      u.loaded.expm.stored.advance.mem.readByte a = u.mem.readByte a :=
    State.chunk_readByte_outside hloop.inv.memory (by rwa [hout, hloop.cursor, hloop.lanes])
  rw [Nat.succ_mul] at hc ⊢
  refine ⟨u.chunk_sameConfiguration.params.trans h.params, fun i hi => ?_, fun a ha => ?_⟩
  · obtain hold | hnew := Nat.lt_or_ge i (c * s.W)
    · rw [Memory.readWord_congr (n := u.mem) fun y hlow hhigh => hkept (by omega)]
      exact h.words i hold
    · obtain ⟨j, rfl⟩ := Nat.exists_eq_add_of_le hnew
      have hword := State.chunk_computes hloop.inv.memory (show j < u.W by rw [hloop.lanes]; omega)
      rwa [h.params, hin, hout, hloop.cursor, h.input_kept (by omega) hdisjoint (by omega)] at hword
  · rw [hkept (by omega)]
    exact h.outside a (by omega)

/-- So much of a run is computed as chunks are done, by induction on the chunks. -/
theorem State.Inv.afterChunks_computed {s : State} (h : s.Inv) (hplace : s.AtPlace (loopTest s.cur s.len))
    (hcur : s.cur = 0) {c : Nat} (hc : c * s.W ≤ s.len) : ComputedUpTo s (s.afterChunks c) (c * s.W) := by
  induction c with
  | zero => exact ⟨rfl, fun i hi => by omega, fun _ _ => rfl⟩
  | succ c ih =>
    have hc' : c * s.W ≤ s.len := by rw [Nat.succ_mul] at hc; omega
    exact (ih hc').succ (h.chunkLoop hplace hcur hc') (h.running hplace.busy).admitted.disjoint hc

/-- Settles O20: when the chunks are done all of the run is computed, and `VX.DONE` leaves it so. -/
theorem invocationComputesEveryElement : Obligations.InvocationComputesEveryElement := by
  intro s l hinv hreset hidle hstart hadmissible
  obtain ⟨hloop, hrun⟩ := invocation_runSteps hinv hreset hidle hstart hadmissible
  have hlen : l.len / s.W * s.W = l.len := Nat.div_mul_cancel hadmissible.lengthMultipleOfW
  have hcomputed : ComputedUpTo (s.launched l) ((s.launched l).afterChunks (l.len / s.W)) (l.len / s.W * s.W) :=
    (hinv.launched (hinv.tuple l hstart) hadmissible).afterChunks_computed ⟨hreset, rfl, rfl, rfl⟩ rfl hlen.le
  rw [hlen] at hcomputed
  exact ⟨_, hrun, rfl, hloop.cursor.trans hlen, hloop.invocation, hloop.place.noStart, hcomputed.words,
    hcomputed.outside⟩

end Sys2Proof.Machine
end

section
/-! SUPPORT and PROOFS. Noninterference (R173).  Results are alike when both are a next state, and these differ at most in
data, or both are the same stop (`Alike`).  What decides an operation, a stop or an address is in the fields that
are no data, so each operation takes states that differ at most in data to results that are alike. -/

namespace Sys2Proof.Machine

/-! ### States that differ at most in data -/

/-- The data of one state put into another with as many lanes. -/
theorem sameControl_iff {s u : State} :
    SameControl s u ↔ ∃ (lanes : List Lane) (mem : Memory) (draws : Nat) (original : Memory),
      lanes.length = s.lanes.length ∧
        u = { s with lanes := lanes, mem := mem, draws := draws, original := original } := by
  constructor
  · rintro ⟨hframe, hlength⟩
    exact ⟨u.lanes, u.mem, u.draws, u.original, hlength, hframe⟩
  · rintro ⟨lanes, mem, draws, original, hlength, rfl⟩
    exact ⟨rfl, hlength⟩

section

variable {s u : State}

theorem SameControl.W_eq (h : SameControl s u) : u.W = s.W := h.2
theorem SameControl.params_eq (h : SameControl s u) : u.params = s.params := by rw [h.1]
theorem SameControl.len_eq (h : SameControl s u) : u.len = s.len := by rw [h.1]
theorem SameControl.inBase_eq (h : SameControl s u) : u.inBase = s.inBase := by rw [h.1]
theorem SameControl.outBase_eq (h : SameControl s u) : u.outBase = s.outBase := by rw [h.1]
theorem SameControl.cur_eq (h : SameControl s u) : u.cur = s.cur := by rw [h.1]
theorem SameControl.busy_eq (h : SameControl s u) : u.busy = s.busy := by rw [h.1]
theorem SameControl.resetLine_eq (h : SameControl s u) : u.resetLine = s.resetLine := by rw [h.1]
theorem SameControl.fetch_eq (h : SameControl s u) : u.fetch = s.fetch := by rw [h.1]; rfl
theorem SameControl.readStop_eq (h : SameControl s u) : u.readStop = s.readStop := by rw [h.1]; rfl
theorem SameControl.writeStop_eq (h : SameControl s u) : u.writeStop = s.writeStop := by rw [h.1]; rfl

/-- The addresses of a chunk rest on the cursor and the number of lanes (R173). -/
theorem SameControl.chunkAddrs_eq (h : SameControl s u) (base : Nat) : u.chunkAddrs base = s.chunkAddrs base := by
  rw [State.chunkAddrs, h.W_eq, h.cur_eq, State.chunkAddrs]

/-- None of the preconditions of R162 speaks of data. -/
theorem SameControl.violations_eq (h : SameControl s u) (l : Launch) : u.violations l = s.violations l := by
  have hbreaks : u.breaks l = s.breaks l := funext fun p => by
    cases p with
    | lengthMultipleOfW => rw [State.breaks, h.W_eq, State.breaks]
    | idle | basesAligned | withinSpace | accessible | buffersDisjoint | noOtherInvocation => rw [h.1]; rfl
  rw [State.violations, hbreaks, State.violations]

end

/-! ### Operations on states that differ at most in data -/

/-- What a lane operation writes is data, the place apart, and that is its own in both states. -/
theorem SameControl.laneStep {s u t v : State} {drawn drawn' : Nat} {code : StageCode} {R R' : Lane → Lane → Prop}
    (h : SameControl s u) (ht : LaneStep s t drawn code R) (hv : LaneStep u v drawn' code R') : SameControl t v := by
  obtain ⟨lanes, mem, draws, original, hlength, rfl⟩ := sameControl_iff.1 h
  obtain ⟨htframe, htlength, -⟩ := ht
  obtain ⟨hvframe, hvlength, -⟩ := hv
  refine ⟨?_, hvlength.trans (hlength.trans htlength.symm)⟩
  rw [htframe, hvframe]

theorem SameControl.loaded {s u : State} (h : SameControl s u) : SameControl s.loaded u.loaded := by
  have haddrs := h.chunkAddrs_eq s.inBase
  obtain ⟨lanes, mem, draws, original, hlength, rfl⟩ := sameControl_iff.1 h
  refine ⟨?_, by simpa using hlength⟩
  rw [State.loaded, haddrs]
  rfl

theorem SameControl.stored {s u : State} (h : SameControl s u) : SameControl s.stored u.stored := by
  have haddrs := h.chunkAddrs_eq s.outBase
  obtain ⟨lanes, mem, draws, original, hlength, rfl⟩ := sameControl_iff.1 h
  refine ⟨?_, hlength⟩
  rw [State.stored, haddrs]
  rfl

theorem SameControl.advance {s u : State} (h : SameControl s u) : SameControl s.advance u.advance := by
  have hW := h.W_eq
  obtain ⟨lanes, mem, draws, original, hlength, rfl⟩ := sameControl_iff.1 h
  refine ⟨?_, hlength⟩
  rw [State.advance, hW]
  rfl

theorem SameControl.expm {s u : State} (h : SameControl s u) : SameControl s.expm u.expm :=
  h.laneStep s.expm_computes u.expm_computes

theorem SameControl.scale {s u : State} (h : SameControl s u) : SameControl s.scale u.scale :=
  h.laneStep (laneStep_scale (R := fun _ _ => True) (fun _ => trivial) s)
    (laneStep_scale (R := fun _ _ => True) (fun _ => trivial) u)

theorem SameControl.launched {s u : State} (h : SameControl s u) (l : Launch) :
    SameControl (s.launched l) (u.launched l) := by
  obtain ⟨lanes, mem, draws, original, hlength, rfl⟩ := sameControl_iff.1 h
  exact ⟨rfl, hlength⟩

theorem SameControl.finished {s u : State} (h : SameControl s u) : SameControl s.finished u.finished := by
  obtain ⟨lanes, mem, draws, original, hlength, rfl⟩ := sameControl_iff.1 h
  exact ⟨rfl, hlength⟩

theorem SameControl.afterReset {s u : State} (h : SameControl s u) : SameControl s.afterReset u.afterReset := by
  obtain ⟨lanes, mem, draws, original, hlength, rfl⟩ := sameControl_iff.1 h
  exact ⟨rfl, by rw [← State.W, ← State.W, State.afterReset_W, State.afterReset_W]; exact hlength⟩

/-! ### Results that are alike -/

/-- Two results are alike: next states that differ at most in data, or one stop. -/
def Alike (r q : Result) : Prop :=
  (∀ t, r = .next t → ∃ v, q = .next v ∧ SameControl t v) ∧
    (∀ e, r = .fault e → q = .fault e) ∧ ∀ e, r = .refused e → q = .refused e

theorem Alike.next {t v : State} (h : SameControl t v) : Alike (.next t) (.next v) :=
  ⟨fun _ ht => ⟨v, rfl, Host.Outcome.next.inj ht ▸ h⟩, nofun, nofun⟩

theorem Alike.of_stop {r : Result} (h : ∀ t, r ≠ .next t) : Alike r r :=
  ⟨fun t ht => absurd ht (h t), fun _ => id, fun _ => id⟩

/-- Operations that go on from alike results to alike results. -/
theorem Alike.andThen {r q : Result} {f g : State → Result} (h : Alike r q)
    (hfg : ∀ t v, SameControl t v → Alike (f t) (g v)) : Alike (andThen r f) (andThen q g) := by
  obtain ⟨hnext, hfault, hrefused⟩ := h
  cases r with
  | next t =>
    obtain ⟨v, rfl, hsame⟩ := hnext t rfl
    exact hfg t v hsame
  | fault e =>
    rw [hfault e rfl]
    exact .of_stop nofun
  | refused e =>
    rw [hrefused e rfl]
    exact .of_stop nofun

section

variable {s u : State}

theorem Alike.eachLane (h : SameControl s u) (f g : Lane → Lane) (code : StageCode) :
    Alike (.next ((s.eachLane f).goto code)) (.next ((u.eachLane g).goto code)) :=
  .next (h.laneStep (laneStep_eachLane (R := fun _ _ => True) (fun _ => trivial) s code)
    (laneStep_eachLane (R := fun _ _ => True) (fun _ => trivial) u code))

theorem Alike.drawLanes (h : SameControl s u) (f g : Word → Lane → Lane) (code : StageCode) :
    Alike (.next ((s.drawLanes f).goto code)) (.next ((u.drawLanes g).goto code)) :=
  .next (h.laneStep (laneStep_drawLanes (R := fun _ _ => True) (fun _ _ => trivial) s code)
    (laneStep_drawLanes (R := fun _ _ => True) (fun _ _ => trivial) u code))

/-- A load stops by its addresses, `XLEN` and the grants alone. -/
theorem SameControl.loadChunk (h : SameControl s u) : Alike s.loadChunk u.loadChunk := by
  rw [State.loadChunk, State.loadChunk, h.inBase_eq, h.readStop_eq, h.chunkAddrs_eq]
  split
  · rename_i stop hfirst
    obtain ⟨a, -, ha⟩ := List.exists_of_findSome?_eq_some hfirst
    exact .of_stop (State.readStop_not_next ha)
  · exact .next h.loaded

/-- A store stops by its addresses, `XLEN` and the grants alone. -/
theorem SameControl.storeChunk (h : SameControl s u) : Alike s.storeChunk u.storeChunk := by
  rw [State.storeChunk, State.storeChunk, h.outBase_eq, h.writeStop_eq, h.chunkAddrs_eq]
  split
  · rename_i stop hfirst
    obtain ⟨a, -, ha⟩ := List.exists_of_findSome?_eq_some hfirst
    exact .of_stop (State.writeStop_not_next ha)
  · exact .next h.stored

theorem SameControl.exec_vxStart (h : SameControl s u) (len inBase outBase : Nat) :
    Alike (exec (.vxStart len inBase outBase) s) (exec (.vxStart len inBase outBase) u) := by
  simp only [exec, execVxStart, h.params_eq, h.violations_eq]
  split
  · split
    · exact .next (h.launched _)
    · exact .of_stop nofun
  · exact .of_stop nofun

theorem SameControl.exec_vxChunk (h : SameControl s u) : Alike (exec .vxChunk s) (exec .vxChunk u) := by
  simp only [exec, execVxChunk, h.busy_eq, h.cur_eq, h.len_eq]
  split
  · exact h.loadChunk.andThen fun _ _ h1 => h1.expm.storeChunk.andThen fun _ _ h2 => .next h2.advance
  · exact .of_stop nofun

theorem SameControl.exec_vxDone (h : SameControl s u) : Alike (exec .vxDone s) (exec .vxDone u) := by
  simp only [exec, execVxDone, h.busy_eq, h.cur_eq, h.len_eq]
  split
  · exact .next h.finished
  · exact .of_stop nofun

/-- Every operation is independent of data. -/
theorem SameControl.exec (h : SameControl s u) (i : Instr) : Alike (exec i s) (exec i u) := by
  cases i with
  | vxStart len inBase outBase => exact h.exec_vxStart len inBase outBase
  | vxLoad => exact h.loadChunk
  | vxStore => exact h.storeChunk
  | vxNext => exact .next h.advance
  | vxDone => exact h.exec_vxDone
  | vxChunk => exact h.exec_vxChunk
  | rrBias | rrUnbias | rrReshi | rrReslo | peMul | peComb => exact .drawLanes h _ _ _
  | srIndex | srExpw | lutFetch | xpPatch | dcCmp | dcMask => exact .eachLane h _ _ _
  | srScale => exact .next h.scale
  | laneExpm => exact .next h.expm

end

/-- Settles O16: reset, the operation that is presented and what it decodes to rest on no data, nor does the operation. -/
theorem controlIsIndependentOfData : Obligations.ControlIsIndependentOfData := by
  intro s u h
  suffices hstep : Alike (step s) (step u) from hstep
  rw [step, step, h.resetLine_eq, h.fetch_eq, h.params_eq]
  split
  · exact .next h.afterReset
  · split
    · exact .next h
    · split
      · exact h.exec _
      · exact .of_stop nofun

end Sys2Proof.Machine
end

section
/-! SUPPORT and PROOFS. The NaN set and the least inputs (R170, R172).  An input of magnitude at most `2^-25` is reduced to
the index 0 and the exponent 0 with itself as the residual, so `F` is the rounding of `1 + x`, and that is 1: below 1 the
words are `2^-24` apart, and the tie at `1 - 2^-25` goes to 1, whose last bit is 0. -/

namespace Sys2Proof.Machine.Binary32

/-! ### The NaN set -/

/-- A NaN's pattern is infinity's and the fraction, which is not 0. -/
theorem pattern_of_isNaN {w : Word} (h : isNaN w = true) : pattern w = 0x7F800000 + max 1 (frac w) := by
  rw [isNaN_iff] at h
  have hlt := pattern_lt w
  rw [frac_eq]
  omega

/-- The bits of the draw that gives a NaN: its sign and its fraction. -/
def nanBitsOf (w : Word) : BitVec 24 := BitVec.cons (sign w) (w.extractLsb' 0 23)

theorem nanBitsOf_msb (w : Word) : (nanBitsOf w).msb = sign w := BitVec.msb_cons

theorem nanBitsOf_mod (w : Word) : (nanBitsOf w).toNat % 2 ^ 23 = frac w := by
  have hfrac : frac w < 2 ^ 23 := frac_lt w
  rw [nanBitsOf, BitVec.toNat_cons', Nat.shiftLeft_eq, Nat.mul_add_mod_self_right]
  exact Nat.mod_eq_of_lt hfrac

theorem nanPattern_nanBitsOf {w : Word} (h : isNaN w = true) : nanPattern (nanBitsOf w) = w := by
  rw [nanPattern, nanBitsOf_msb, nanBitsOf_mod, ← pattern_of_isNaN h, withSign_sign_pattern]

/-- Settles O46: each NaN is given by its sign and fraction. -/
theorem drawnNaNsAreTheNaNSet : Obligations.DrawnNaNsAreTheNaNSet :=
  ⟨isNaN_nanPattern, fun w h => ⟨nanBitsOf w, nanPattern_nanBitsOf h⟩⟩

/-! ### Roundings to 1 -/

theorem val_before_one : val 0x3F7FFFFF#32 = 1 - 1 / 2 ^ 24 := by decide +kernel

theorem val_after_one : val 0x3F800001#32 = 1 + 1 / 2 ^ 23 := by decide +kernel

theorem eq_of_val_eq {a b : Word} (h : val a = val b) (hne : val b ≠ 0) : a = b := by
  rw [val_eq_units, val_eq_units, div_left_inj' (by positivity), Int.cast_inj] at h
  refine eq_of_units_eq h fun h0 => hne ?_
  rw [val_eq_units, ← h, h0, Int.cast_zero, zero_div]

/-- The values around 1: below it the words are twice as dense as above it. -/
theorem val_around_one (w : Word) : val w ≤ 1 - 1 / 2 ^ 24 ∨ w = 0x3F800000#32 ∨ 1 + 1 / 2 ^ 23 ≤ val w := by
  have hbelow := val_le_or_val_ge (v := 0x3F7FFFFF#32) (w := 0x3F800000#32) (by decide) rfl w
  have habove := val_le_or_val_ge (v := 0x3F800000#32) (w := 0x3F800001#32) (by decide) rfl w
  rw [val_before_one] at hbelow
  rw [val_after_one] at habove
  refine hbelow.imp_right fun hle => (habove.imp_left fun hge => ?_)
  exact eq_of_val_eq (le_antisymm hge hle) (by rw [val_one]; exact one_ne_zero)

/-- The word nearest to a number within `2^-25` of 1 is 1. -/
theorem eq_one_of_isNearest {v : ℚ} {w : Word} (h : IsNearest v w) (hv : |v - 1| ≤ 1 / 2 ^ 25) : w = 0x3F800000#32 := by
  obtain ⟨-, hnear⟩ := h
  obtain ⟨hle, htie⟩ := hnear 0x3F800000#32 (by decide)
  rw [val_one] at hle htie
  obtain ⟨hlow, hhigh⟩ := abs_le.mp hv
  obtain ⟨hwlow, hwhigh⟩ := abs_le.mp (hle.trans (abs_sub_comm v 1 ▸ hv))
  obtain hbelow | hone | habove := val_around_one w
  · -- only the tie at `1 - 2^-25` is left, and the last bit of the word below 1 is 1
    have hval : val w = 1 - 1 / 2 ^ 24 := by linarith
    have htied : |val w - v| = |1 - v| := by
      rw [hval, show v = 1 - 1 / 2 ^ 25 by linarith]
      norm_num [abs_of_pos, abs_of_neg]
    obtain rfl : w = 0x3F7FFFFF#32 :=
      eq_of_val_eq (hval.trans val_before_one.symm) (by rw [val_before_one]; norm_num)
    exact absurd (htie htied (by rw [hval]; norm_num)) (by decide)
  · exact hone
  · exfalso
    linarith

end Sys2Proof.Machine.Binary32

namespace Sys2Proof.Machine

open Binary32

/-! ### Inputs of magnitude at most `2^-25` -/

/-- A finite word whose value is at most `2^-25` from 0. -/
structure IsTiny (x : Word) : Prop where
  finite : isFinite x = true
  low : -(1 / 2 ^ 25) ≤ val x
  high : val x ≤ 1 / 2 ^ 25

section

variable {x : Word}

theorem isTiny_of_abs_le (hx : isFinite x = true) (h : |val x| ≤ (2 : ℚ) ^ (-25 : ℤ)) : IsTiny x := by
  rw [show (2 : ℚ) ^ (-25 : ℤ) = 1 / 2 ^ 25 by norm_num] at h
  obtain ⟨hlow, hhigh⟩ := abs_le.mp h
  exact ⟨hx, hlow, hhigh⟩

theorem isTiny_zero (negative : Bool) : IsTiny (zero negative) := by
  have hval : val (zero negative) = 0 := by
    rw [val_eq_units, (units_eq_zero_iff _).mpr (by cases negative <;> decide), Int.cast_zero, zero_div]
  exact ⟨by cases negative <;> decide, by rw [hval]; norm_num, by rw [hval]; norm_num⟩

theorem IsTiny.not_below (h : IsTiny x) : ¬ Below x K_CUT := by
  have hlow := h.low
  rw [below_iff (isNaN_of_isFinite h.finite) (by decide), ← val_lt_val_iff, val_K_CUT]
  linarith

/-- The biased sum is the bias itself: the integer nearest to `x*Cv` is 0. -/
theorem IsTiny.fma_bias (h : IsTiny x) : fma x K_C K_B = some K_B := by
  obtain ⟨hx, hlow, hhigh⟩ := h
  have hscaledLow : -1 / 4 < val x * val K_C := by rw [val_K_C]; linarith
  have hscaledHigh : val x * val K_C < 1 / 4 := by rw [val_K_C]; linarith
  obtain ⟨nraw, r, hfma, hr, -, hnearest, -⟩ := exists_biasedSum hx (by linarith) (by linarith)
  obtain ⟨hnearLow, hnearHigh⟩ := abs_le.mp hnearest
  have hrLow : ((r : ℤ) - 12582912 : ℤ) < (1 : ℚ) := by linarith
  have hrHigh : (-1 : ℚ) < ((r : ℤ) - 12582912 : ℤ) := by linarith
  have hzero : (r : ℤ) - 12582912 = 0 := by
    have hlt : (r : ℤ) - 12582912 < 1 := by exact_mod_cast hrLow
    have hgt : -1 < (r : ℤ) - 12582912 := by exact_mod_cast hrHigh
    omega
  obtain rfl : r = 12582912 := by omega
  rw [hfma, BitVec.eq_of_toNat_eq (hr.toNat_eq.trans isUnitBinade_K_B.toNat_eq.symm)]

theorem fsub_K_B_self : fsub K_B K_B = some 0x00000000#32 := by decide +kernel

/-- Adding a product with zero keeps the value, though not the sign of a zero. -/
theorem IsTiny.fma_zero (h : IsTiny x) {k : Word} (hk : isFinite k = true) :
    ∃ t, fma 0x00000000#32 k x = some t ∧ IsTiny t := by
  have hexact : units 0x00000000#32 * units k + fineUnits x = fineUnits x := by
    rw [(units_eq_zero_iff 0x00000000#32).mpr (by decide), zero_mul, zero_add]
  refine ⟨_, fma_of_isFinite (by decide) hk h.finite, ?_⟩
  rw [hexact]
  by_cases h0 : fineUnits x = 0
  · rw [h0, round_zero]
    exact isTiny_zero _
  · rwa [round_fineUnits _ h.finite h0]

/-- The scale at the bias is 1: the index 0 and the exponent word 0. -/
theorem scale_K_B : tableWord (indexOf K_B) + exponentWord K_B = 0x3F800000#32 := by
  rw [show indexOf K_B = 0#11 from rfl, show exponentWord K_B = 0x00000000#32 from rfl, tableWord_first]
  rfl

/-- The last operation rounds `1 + x` to 1. -/
theorem IsTiny.fma_one (h : IsTiny x) : fma 0x3F800000#32 x 0x3F800000#32 = some 0x3F800000#32 := by
  obtain ⟨hx, hlow, hhigh⟩ := h
  obtain ⟨f, hfma, hrounded⟩ := fmaIsCorrectlyRounded 0x3F800000#32 x 0x3F800000#32 (by decide) hx (by decide)
  have hdist : |val x + 1 - 1| ≤ 1 / 2 ^ 25 := by
    rw [add_sub_cancel_right, abs_le]
    exact ⟨hlow, hhigh⟩
  have hrange : |val x + 1| < 2 ^ 128 - 2 ^ 103 := by
    rw [abs_lt]
    constructor <;> linarith
  rw [val_one, one_mul, IsRounded, if_pos hrange] at hrounded
  rw [hfma, eq_one_of_isNearest hrounded hdist]

/-- The whole lane: `T` and `P` are `x` but for the sign of a zero. -/
theorem IsTiny.laneY_one (h : IsTiny x) : laneY .one x = some 0x3F800000#32 := by
  obtain ⟨t1, ht1, htiny1⟩ := h.fma_zero (k := K_NHI) (by decide)
  obtain ⟨t, ht, htiny⟩ := htiny1.fma_zero (k := K_NLO) (by decide)
  have hp : fmul t (K_C1 .one) = some t := fmul_one (isNaN_of_isFinite htiny.finite)
  rw [laneY_of_not_below .one (.inr h.not_below), laneF]
  simp only [h.fma_bias, fsub_K_B_self, ht1, ht, hp, scale_K_B, htiny.fma_one, Option.bind_some]

/-- `1/exp x - 1` is at most `2*|x|` from 0. -/
theorem IsTiny.withinBudget_one (h : IsTiny x) : WithinBudget ((2 : ℚ) ^ (-24 : ℤ)) x 0x3F800000#32 := by
  obtain ⟨-, hlow, hhigh⟩ := h
  have hx : |-(val x : ℝ)| ≤ 1 / 2 ^ 25 := by
    have hcast : ((|val x| : ℚ) : ℝ) ≤ (1 / 2 ^ 25 : ℚ) := Rat.cast_le.mpr (abs_le.mpr ⟨hlow, hhigh⟩)
    push_cast at hcast
    rwa [abs_neg]
  have hexp : |Real.exp (-(val x : ℝ)) - 1| ≤ 2 * |-(val x : ℝ)| :=
    Real.abs_exp_sub_one_le (hx.trans (by norm_num))
  have hfactor : ((val 0x3F800000#32 : ℚ) : ℝ) - Real.exp (val x) =
      (Real.exp (-(val x : ℝ)) - 1) * Real.exp (val x) := by
    rw [val_one, sub_mul, ← Real.exp_add, neg_add_cancel, Real.exp_zero, one_mul, Rat.cast_one]
  refine ⟨by decide, ?_⟩
  rw [hfactor, abs_mul, abs_of_pos (Real.exp_pos _)]
  refine mul_le_mul_of_nonneg_right ?_ (Real.exp_pos _).le
  push_cast
  norm_num at hx hexp ⊢
  linarith

end

/-- `T` is the difference of two infinities. -/
theorem laneY_inf (c1 : Config.Coefficient) : laneY c1 0x7F800000#32 = none := by
  cases c1 <;> decide +kernel

/-- Settles O58: the reduction leaves `x` itself, and `1 + x` is rounded to 1. -/
theorem tinyInputsGiveOne : Obligations.TinyInputsGiveOne := by
  refine ⟨fun x hx habs => ?_, laneY_inf⟩
  have htiny := isTiny_of_abs_le hx habs
  exact ⟨htiny.laneY_one, htiny.withinBudget_one⟩

end Sys2Proof.Machine
end

section
/-! SUPPORT and PROOFS. Progress and reset: an idle block does nothing (R201), a block with the invariant steps or
refuses its tuple (R190, R191), and since the runs are apart, what a reset leaves in one of them no other overwrites
(R210). -/

namespace Sys2Proof.Machine

/-! ### An idle block -/

/-- Settles O7: nothing is presented. -/
theorem idleInstanceDoesNothing : Obligations.IdleInstanceDoesNothing := fun _ => step_of_idle

/-! ### Progress -/

/-- The codes of a chunk are assigned (R69). -/
theorem isSome_ofStageCode_of_inChunk : ∀ code : StageCode, inChunk code → (ofStageCode code.toNat).isSome = true := by
  unfold inChunk
  decide

/-- So inside a chunk there is an operation at the place. -/
theorem exists_stageCode_of_inChunk {code : StageCode} (h : inChunk code) : ∃ i : Instr, i.stageCode = code := by
  obtain ⟨i, hi⟩ := Option.isSome_iff_exists.1 (isSome_ofStageCode_of_inChunk code h)
  exact ⟨i, BitVec.eq_of_toNat_eq (stageCode_of_ofStageCode hi)⟩

theorem State.Runs.chunk_mayRead {s : State} (h : s.Runs) (hlt : s.cur < s.len) {i : Nat} (hi : i < s.W) :
    s.MayRead s.inBase (s.cur + i) :=
  h.admitted.mayRead (Nat.lt_of_lt_of_le (Nat.add_lt_add_left hi s.cur) (h.cur_add_W_le hlt))

theorem State.Runs.chunk_mayWrite {s : State} (h : s.Runs) (hlt : s.cur < s.len) {i : Nat} (hi : i < s.W) :
    s.MayWrite s.outBase (s.cur + i) :=
  h.admitted.mayWrite (Nat.lt_of_lt_of_le (Nat.add_lt_add_left hi s.cur) (h.cur_add_W_le hlt))

/-- The operation that stands at a place inside a chunk has a next state: its accesses were admitted, and a lane
operation has no condition. -/
theorem State.Inv.exec_inChunk {s : State} {i : Instr} (h : s.Inv) (hbusy : s.busy = true)
    (hcode : i.stageCode = s.stage) (hin : inChunk s.stage) : ∃ t, exec i s = .next t := by
  have hrun := h.running hbusy
  have hlt := hrun.cur_lt_len hin
  obtain ⟨hnotStart, hnotDone, -⟩ := hin
  cases i with
  | vxStart => exact absurd hcode.symm hnotStart
  | vxDone => exact absurd hcode.symm hnotDone
  | vxLoad => exact ⟨_, exec_vxLoad_of_mayRead fun _ => hrun.chunk_mayRead hlt⟩
  | vxStore => exact ⟨_, exec_vxStore_of_mayWrite fun _ => hrun.chunk_mayWrite hlt⟩
  | vxChunk => exact ⟨_, h.exec_vxChunk hbusy hlt⟩
  | rrBias | rrUnbias | rrReshi | rrReslo | srIndex | srExpw | lutFetch | xpPatch | peMul | peComb | dcCmp | dcMask
  | vxNext | srScale | laneExpm => exact ⟨_, rfl⟩

/-- A run that is left to itself goes on: inside a chunk by the operation there, at its end by `VX.DONE`. -/
theorem State.Inv.step_of_busy {s : State} (h : s.Inv) (hreset : s.resetLine = false) (hstart : s.start = none)
    (hbusy : s.busy = true) : ∃ t, step s = .next t := by
  have hrun := h.running hbusy
  obtain ⟨hin, -⟩ | ⟨hdone, hend⟩ := hrun.place
  · obtain ⟨i, hi⟩ := exists_stageCode_of_inChunk hin
    rw [step_of_stageCode hreset hstart hbusy hi.symm (hi ▸ hrun.stage_ne_zero)]
    exact h.exec_inChunk hbusy hi hin
  · rw [step_of_stageCode (i := .vxDone) hreset hstart hbusy hdone (by decide)]
    exact ⟨_, execVxDone_eq_next.2 ⟨hbusy, hend, rfl⟩⟩

/-- A tuple that fits is taken, or refused for the preconditions it violates (R191). -/
theorem step_of_fitting_start {s : State} {l : Launch} (hreset : s.resetLine = false) (hstart : s.start = some l)
    (hfits : s.Fits l) :
    step s = .next (s.launched l) ∨ s.violations l ≠ [] ∧ step s = .refused (.launch (s.violations l)) := by
  rw [step_of_start hreset hstart hfits]
  by_cases hnone : s.violations l = []
  · exact .inl (execVxStart_eq_next.2 ⟨hfits, hnone, rfl⟩)
  · exact .inr ⟨hnone, exec_vxStart_of_violations hfits hnone⟩

theorem step_of_reset {s : State} (hreset : s.resetLine = true) : step s = .next s.afterReset := if_pos hreset

/-- Settles O12, by what the step finds: reset, a tuple, a run, or nothing. -/
theorem neverFaultsNeverStalls : Obligations.NeverFaultsNeverStalls := by
  intro s hinv
  cases hreset : s.resetLine with
  | true => exact .inl ⟨_, step_of_reset hreset⟩
  | false =>
    cases hstart : s.start with
    | some l =>
      obtain hstep | ⟨hviolated, hstep⟩ := step_of_fitting_start hreset hstart (hinv.tuple l hstart)
      · exact .inl ⟨_, hstep⟩
      · obtain ⟨p, vs, hlist⟩ := List.exists_cons_of_ne_nil hviolated
        exact .inr ⟨rfl, l, rfl, p, vs, hlist ▸ hstep⟩
    | none =>
      cases hbusy : s.busy with
      | true => exact .inl (hinv.step_of_busy hreset hstart hbusy)
      | false => exact .inl ⟨s, step_of_idle hreset hstart hbusy⟩

/-! ### The words that a reset writes are apart -/

/-- Words of two buffers with no byte in common. -/
theorem BuffersDisjoint.wordsApart {a n b m i j : Nat} {v w : Word} (h : BuffersDisjoint a n b m) (hi : i < n)
    (hj : j < m) : WordsApart (a + 4 * i, v) (b + 4 * j, w) := by
  by_contra hmeet
  simp only [WordsApart, not_or, not_le] at hmeet
  obtain ⟨h1, h2⟩ := hmeet
  exact h (max (a + 4 * i) (b + 4 * j) - a) (max (a + 4 * i) (b + 4 * j) - b) (by omega) (by omega) (by omega)

/-- The words of one run are apart: their addresses rise by 4. -/
theorem State.abandonedWords_apart (s : State) (outBase len draw : Nat) (final untouched : Nat → Word) :
    (s.abandonedWords outBase len draw final untouched).Pairwise WordsApart := by
  refine List.pairwise_lt_range.filterMap _ fun i j hij e he f hf => ?_
  obtain ⟨-, he⟩ := Option.ite_none_right_eq_some.1 he
  obtain ⟨-, hf⟩ := Option.ite_none_right_eq_some.1 hf
  obtain rfl := Option.some.inj he
  obtain rfl := Option.some.inj hf
  simp only [WordsApart, elementAddr]
  omega

theorem State.ownWordsAtReset_apart (s : State) : s.ownWordsAtReset.Pairwise WordsApart := by
  unfold State.ownWordsAtReset
  split
  · exact s.abandonedWords_apart ..
  · exact .nil

/-- So are those of two runs elsewhere that may run at once. -/
theorem Apart.otherWordsAtReset {s : State} {l o : Launch} (h : Apart l o) {draw draw' : Nat} :
    ∀ e ∈ s.otherWordsAtReset l draw, ∀ f ∈ s.otherWordsAtReset o draw', WordsApart e f := by
  intro e he f hf
  obtain ⟨-, -, houts⟩ := h
  obtain ⟨i, hi, -, rfl⟩ := State.mem_abandonedWords.1 he
  obtain ⟨j, hj, -, rfl⟩ := State.mem_abandonedWords.1 hf
  exact houts.wordsApart hi hj

/-- And those of the run here from those of a run elsewhere, by P8 of R162. -/
theorem State.Inv.own_other_apart {s : State} (h : s.Inv) {o : Launch} (ho : o ∈ s.others) {draw : Nat}
    {e f : Nat × Word} (he : e ∈ s.ownWordsAtReset) (hf : f ∈ s.otherWordsAtReset o draw) : WordsApart e f := by
  obtain ⟨hbusy, i, hi, -, rfl⟩ := State.mem_ownWordsAtReset.1 he
  obtain ⟨j, hj, -, rfl⟩ := State.mem_abandonedWords.1 hf
  obtain ⟨-, -, houts⟩ := (h.running hbusy).admitted.noOther o ho
  exact houts.wordsApart (i := i) hi hj

/-- No word that a reset writes overwrites another. -/
theorem State.Inv.wordsAtReset_apart {s : State} (h : s.Inv) : s.wordsAtReset.Pairwise WordsApart := by
  have hothers : s.others.zipIdx.Pairwise fun o o' => Apart o.1 o'.1 := by
    rw [← List.pairwise_map (f := Prod.fst), List.zipIdx_map_fst]
    exact h.apart
  refine List.pairwise_append.2 ⟨s.ownWordsAtReset_apart, List.pairwise_flatMap.2 ⟨fun _ _ => ?one, ?two⟩, ?own⟩
  case one => exact s.abandonedWords_apart ..
  case two => exact hothers.imp fun hapart => hapart.otherWordsAtReset
  case own =>
    intro e he f hf
    obtain ⟨⟨o, k⟩, ho, hf⟩ := List.mem_flatMap.1 hf
    exact h.own_other_apart (List.mem_of_getElem? (List.mem_zipIdx_iff_getElem?.1 ho)) he hf

/-! ### What a reset leaves in a run -/

/-- Every word of the run here could be written, since it was admitted, and so holds what was chosen for it. -/
theorem State.Inv.afterReset_readWord_own {s : State} (h : s.Inv) (hbusy : s.busy = true) {i : Nat} (hi : i < s.len) :
    s.afterReset.mem.readWord (s.outBase + 4 * i) =
      if Config.finalAtReset s.draws i then s.finalWord i else s.original.readWord (s.outBase + 4 * i) := by
  have hwritable : s.MayWrite s.outBase i := (h.running hbusy).admitted.mayWrite (l := s.invocation) hi
  exact Memory.readWord_writeWords h.memory h.wordsAtReset_apart (State.mem_wordsAtReset.2 (.inl
    (State.mem_ownWordsAtReset.2 ⟨hbusy, i, hi, State.writeStop_eq_none_iff.2 hwritable, rfl⟩)))

/-- Every word of a run elsewhere holds what was chosen for it, for the same reason. -/
theorem State.Inv.afterReset_readWord_other {s : State} (h : s.Inv) {k : Nat} {o : Launch} (ho : s.others[k]? = some o)
    {i : Nat} (hi : i < o.len) :
    s.afterReset.mem.readWord (o.outBase + 4 * i) =
      if Config.finalAtReset (s.draws + 6 * (k + 1)) i then s.computedWord o.inBase (s.draws + 6 * (k + 1)) i
      else s.mem.readWord (o.outBase + 4 * i) := by
  obtain ⟨-, hadmissible⟩ := h.elsewhere o (List.mem_of_getElem? ho)
  have hwritable : s.MayWrite o.outBase i := hadmissible.mayWrite hi
  exact Memory.readWord_writeWords h.memory h.wordsAtReset_apart (State.mem_wordsAtReset.2 (.inr
    ⟨k, o, ho, State.mem_abandonedWords.2 ⟨i, hi, State.writeStop_eq_none_iff.2 hwritable, rfl⟩⟩))

theorem State.isStored_iff {s : State} {i : Nat} :
    s.isStored i = true ↔ i < s.cur ∨ (s.stage = 0x0F#5 ∧ i < s.cur + s.W) := by
  simp [State.isStored]

/-- The final value of an element: the word stored, or what the lane computes of the input. -/
theorem State.finalWord_cases (s : State) (i : Nat) :
    ((i < s.cur ∨ (s.stage = 0x0F#5 ∧ i < s.cur + s.W)) ∧ s.finalWord i = s.mem.readWord (s.outBase + 4 * i)) ∨
    (¬ (i < s.cur ∨ (s.stage = 0x0F#5 ∧ i < s.cur + s.W)) ∧
      Computes (laneY s.params.c1 (s.mem.readWord (s.inBase + 4 * i))) (s.finalWord i)) := by
  rw [← State.isStored_iff]
  by_cases hstored : s.isStored i = true
  · exact .inl ⟨hstored, if_pos hstored⟩
  · refine .inr ⟨hstored, ?_⟩
    rw [State.finalWord, if_neg hstored]
    exact s.computedWord_computes s.inBase s.draws i

/-- Settles O18: in each word of a run that it ends, a reset leaves the final value or what was there. -/
theorem resetAbandonsTheRun : Obligations.ResetAbandonsTheRun := by
  intro s hinv hreset
  refine ⟨s.afterReset, step_of_reset hreset, rfl, rfl, rfl, rfl, rfl, rfl, s.afterReset_W, fun hbusy i hi => ?own,
    fun o ho i hi => ?elsewhere, fun _ => State.afterReset_readByte_outside hinv.memory⟩
  case own =>
    rw [hinv.afterReset_readWord_own hbusy hi]
    split
    · exact .inr (s.finalWord_cases i)
    · exact .inl rfl
  case elsewhere =>
    obtain ⟨k, hk⟩ := List.getElem?_of_mem ho
    rw [hinv.afterReset_readWord_other hk hi]
    split
    · exact .inr (s.computedWord_computes o.inBase _ i)
    · exact .inl rfl

end Sys2Proof.Machine
end
